-- ==== Sys2Proof/Word.lean ====
section
/-! DEFINITION. The word types of KZCORE (00_scope.md R9, R10; 20_memory.md R50; 30_encoding.md R89). -/

namespace Sys2Proof

/-- R9: an 8-bit unsigned value; bit `i` has weight `2^i`, and as a field element is the coefficient of `x^i`. -/
abbrev Byte := BitVec 8

/-- R50: a 7-bit address of the window, `0x00..0x7F`. -/
abbrev WindowAddr := BitVec 7

/-- R89: the 16-bit transaction word of one host access. -/
abbrev BusWord := BitVec 16

/-- R10: an ordered sequence of exactly 16 bytes, `b[0]` first. -/
abbrev Block := Vector Byte 16

/-- R10: an ordered sequence of exactly 32 bytes. It is also the shape of a Pair laid out in DIN or DOUT (R84). -/
abbrev Key := Vector Byte 32

end Sys2Proof
end

