-- ==== Sys2Proof/Syntax.lean ====
section
/-! DEFINITION. The command set (30_encoding.md R81), and the host's side of the interface: its accesses (20_memory.md
R52, R55), its program notation (R88) and the pseudo-instructions (R90). -/

namespace Sys2Proof

/-- R81: the 19 commands. A command has no operand fields (R80): its operands come from fixed window registers (R82). -/
inductive Instr where
  | nop | gfmul | sbox | sboxi
  | sblk | sblki | rstep | rstepi | lxfm | lxfmi | lp | lpi
  | rcon | fstep
  | kload | kclr | rkrd
  | enc | dec
  deriving DecidableEq, Repr

/-- R87: what the decoder answers on a command byte, `Command | Illegal`. -/
inductive Decoded where
  | command (i : Instr)
  /-- one of the 237 codes of R86; its completion step raises IllegalCommand (R243) -/
  | illegal
  deriving DecidableEq, Repr

/-- One host access to the window: `HostWrite(a, v)` (R52) or `HostRead(a)` (R55). -/
inductive Access where
  | write (a : WindowAddr) (v : Byte)
  | read (a : WindowAddr)
  deriving DecidableEq, Repr

/-- What a 16-bit bus word stands for (R89). -/
inductive BusDecoded where
  | access (x : Access)
  /-- W = 0 with D other than 0x00: R89 fixes `0x00 for a read` and gives no meaning to another value. DESIGN CHOICE
  (assumption log 7): rejected by name. Safe: the word is no access, so nothing is claimed of it. -/
  | readWithData (a : WindowAddr) (d : Byte)
  deriving DecidableEq, Repr

/-- R88: one step of a host program. A label is a position in the program. -/
inductive HostOp where
  /-- `WR a, v` -/
  | wr (a : WindowAddr) (v : Byte)
  /-- `RD a` -/
  | rd (a : WindowAddr)
  /-- `BNZ label, v, m`: to `label` if `(v AND m) != 0`, with `v` the value of the preceding `RD`. Executed by the
  host, not by KZCORE. -/
  | bnz (label : Nat) (m : Byte)
  deriving DecidableEq, Repr

/-- R90: the pseudo-instructions, and the plain host operations beside them. -/
inductive Pseudo where
  | op (o : HostOp)
  | cmd (i : Instr)
  | wait
  | wrblk (a : WindowAddr) (h : List Byte)
  | rdblk (a : WindowAddr) (n : Nat)
  | setlen (n : Byte)
  | seta0 (v : Byte)
  | seta1 (v : Byte)
  | run (i : Instr)
  deriving DecidableEq, Repr

end Sys2Proof
end

