-- ==== Sys2Proof/Decode.lean ====
section
/-! DEFINITION. The command decoder (30_encoding.md R87) and encoder (R81), and the bus word of a host access (R89). -/

namespace Sys2Proof

/-- R87: all 8 bits select the command; the decoder is total over all 256 values. -/
def decode (c : Byte) : Decoded :=
  match c.toNat with
  | 0x00 => .command .nop
  | 0x01 => .command .gfmul
  | 0x02 => .command .sbox
  | 0x03 => .command .sboxi
  | 0x10 => .command .sblk
  | 0x11 => .command .sblki
  | 0x12 => .command .rstep
  | 0x13 => .command .rstepi
  | 0x14 => .command .lxfm
  | 0x15 => .command .lxfmi
  | 0x16 => .command .lp
  | 0x17 => .command .lpi
  | 0x20 => .command .rcon
  | 0x21 => .command .fstep
  | 0x30 => .command .kload
  | 0x31 => .command .kclr
  | 0x32 => .command .rkrd
  | 0x40 => .command .enc
  | 0x41 => .command .dec
  | _ => .illegal

/-- R80: the group field, GRP = bits 7:4. -/
def commandGroup (i : Instr) : BitVec 4 :=
  match i with
  | .nop | .gfmul | .sbox | .sboxi => 0x0#4
  | .sblk | .sblki | .rstep | .rstepi | .lxfm | .lxfmi | .lp | .lpi => 0x1#4
  | .rcon | .fstep => 0x2#4
  | .kload | .kclr | .rkrd => 0x3#4
  | .enc | .dec => 0x4#4

/-- R80: the function field, FN = bits 3:0. -/
def commandFunction (i : Instr) : BitVec 4 :=
  match i with
  | .nop | .sblk | .rcon | .kload | .enc => 0x0#4
  | .gfmul | .sblki | .fstep | .kclr | .dec => 0x1#4
  | .sbox | .rstep | .rkrd => 0x2#4
  | .sboxi | .rstepi => 0x3#4
  | .lxfm => 0x4#4
  | .lxfmi => 0x5#4
  | .lp => 0x6#4
  | .lpi => 0x7#4

/-- R80, R81: code(m), the byte GRP : FN the host writes to CMD. -/
def encode (i : Instr) : Byte := commandGroup i ++ commandFunction i

/-- R89: the bus word of a host access, W in bit 15, A in bits 14:8 and D in bits 7:0; D is 0x00 for a read. -/
def encodeAccess : Access → BusWord
  | .write a v => 0x8000#16 ||| (a.setWidth 16 <<< 8) ||| v.setWidth 16
  | .read a => a.setWidth 16 <<< 8

/-- R89: the access a 16-bit bus word stands for; total, rejecting by name a read that carries data. -/
def decodeAccess (t : BusWord) : BusDecoded :=
  let a : WindowAddr := t.extractLsb' 8 7
  let d : Byte := t.extractLsb' 0 8
  if t.getLsbD 15 then .access (.write a d)
  else if d = 0x00#8 then .access (.read a)
  else .readWithData a d

/-- R88, R89: the access a host operation makes on the bus; `BNZ is executed by the host ... and is not encoded on the
bus`. -/
def HostOp.access? : HostOp → Option Access
  | .wr a v => some (.write a v)
  | .rd a => some (.read a)
  | .bnz _ _ => none

/-- The host's question: the instruction the decoder reads from a table row's bits. A command is exactly one byte (R87), so
any other width is no command. -/
def decodeTableWord (nbits w : Nat) : Option Instr :=
  if nbits = 8 then
    match decode (BitVec.ofNat 8 w) with
    | .command i => some i
    | .illegal => none
  else none

end Sys2Proof
end

