-- ==== Sys2Proof/Machine/State.lean ====
section
/-! DEFINITION. The architectural state of KZCORE (10_state.md R20), the two agents outside the engine, and reset
(R39). -/

namespace Sys2Proof.Machine

/-- 60_exceptions.md R242: the error kinds a completion step can report. They are values of ERRCODE, not stops of the
machine. -/
inductive ErrorKind where
  | invalidKeyLength
  | invalidBlockLength
  | keyNotLoaded
  | invalidIndex
  | illegalCommand
  deriving DecidableEq, Repr

/-- What the next step of an execution is (20_memory.md R62, 70_reset_and_hazards.md R270). -/
inductive Turn where
  /-- one step of the host's program -/
  | host
  /-- the completion step, where it is enabled -/
  | engine
  /-- the platform's reset event -/
  | reset
  deriving DecidableEq, Repr

/-- The agents outside the engine, as plain data (assumption log 1, 2, 4). No field of it is state of KZCORE. -/
structure Env where
  /-- the host's program (R88) -/
  prog : List HostOp
  /-- the host's position in its program -/
  pos : Nat
  /-- the values the host has read, newest first (R55) -/
  reads : List Byte
  /-- the turns to come, first to come first (R62) -/
  turns : List Turn
  /-- how many free values have been drawn -/
  draws : Nat
  deriving DecidableEq, Repr

/-- R20: the complete architectural state of KZCORE, with `env` beside it. -/
structure State where
  /-- R22: operand bytes, window 0x00..0x1F -/
  din : Vector Byte 32
  /-- R23: result bytes, window 0x20..0x3F -/
  dout : Vector Byte 32
  /-- R24: declared operand length, window 0x40 -/
  len : Byte
  /-- R25: scalar operand 0 or index, window 0x41 -/
  arg0 : Byte
  /-- R26: scalar operand 1, window 0x42 -/
  arg1 : Byte
  /-- R27: scalar result, window 0x43 -/
  res : Byte
  /-- R28: last accepted command code, window 0x44 -/
  cmd : Byte
  /-- R30: a command is accepted and not yet completed -/
  busy : Bool
  /-- R32: RK holds a valid key schedule -/
  keyv : Bool
  /-- R33: outcome of the last completed command, window 0x46 -/
  errcode : Byte
  /-- R34: the round-key file, not in the window -/
  rk : Vector Block 10
  /-- the agents outside the engine -/
  env : Env
  deriving DecidableEq, Repr

/-- Nothing stops KZCORE with a fault: `No host access faults, and there is no bus-error response` (20_memory.md R57),
`KZCORE has no traps` (60_exceptions.md R245). The type has no constructor (assumption log 14). -/
inductive Fault where
  deriving DecidableEq, Repr

/-- Why an instruction has no meaning. -/
inductive Refusal where
  /-- Raised by an arm of `exec` whose instruction is not modelled yet; no arm raises it now. Safe: the machine stops
  where the hardware goes on. -/
  | notModelled (mnemonic : String)
  deriving DecidableEq, Repr

/-- The host agent with no program and no turn placed. DESIGN CHOICE (assumption log 1, 2, 4): none of it is state of
KZCORE. -/
def Env.initial : Env := { prog := [], pos := 0, reads := [], turns := [], draws := 0 }

/-- R39: the reset value of every state element. -/
def State.reset : State :=
  { din := Vector.replicate 32 0x00#8
    dout := Vector.replicate 32 0x00#8
    len := 0x00#8
    arg0 := 0x00#8
    arg1 := 0x00#8
    res := 0x00#8
    cmd := 0x00#8
    busy := false
    keyv := false
    errcode := 0x00#8
    rk := Vector.replicate 10 (Vector.replicate 16 0x00#8)
    env := Env.initial }

end Sys2Proof.Machine
end

