-- ==== Sys2Proof/Machine/Flags.lean ====
section
/-! DEFINITION. The STATUS byte and its flags (10_state.md R29 to R32), and the error codes (60_exceptions.md R242). -/

namespace Sys2Proof.Machine

/-- R31: ERR is 1 exactly when `ERRCODE != 0x00`; it is not separate state. -/
def State.err (s : State) : Bool := s.errcode != 0x00#8

/-- A flag zero-extended to a byte (R55 `zext_8`). -/
def flagByte (b : Bool) : Byte := if b then 0x01#8 else 0x00#8

/-- R29: `STATUS = BUSY | (ERR << 1) | (KEYV << 2)`, computed from state on every read. -/
def State.status (s : State) : Byte :=
  flagByte s.busy ||| (flagByte s.err <<< 1) ||| (flagByte s.keyv <<< 2)

/-- R242: the byte written to ERRCODE for an error. -/
def errorCode : ErrorKind → Byte
  | .invalidKeyLength => 0x01#8
  | .invalidBlockLength => 0x02#8
  | .keyNotLoaded => 0x03#8
  | .invalidIndex => 0x04#8
  | .illegalCommand => 0x05#8

end Sys2Proof.Machine
end

