-- ==== Sys2Proof/Machine/Operands.lean ====
section
/-! DEFINITION. Every operand form of the commands (30_encoding.md R82 to R85) and the byte order of Blocks and Keys
(20_memory.md R58). -/

namespace Sys2Proof.Machine

/-- R58: a Block written as a hex string lists byte 0 first, two hex digits a byte. -/
def blockOfHex (n : Nat) : Block := Vector.ofFn fun i : Fin 16 => BitVec.ofNat 8 (n >>> (8 * (15 - i.val)))

/-- R58: a Key written as a hex string lists byte 0 first. -/
def keyOfHex (n : Nat) : Key := Vector.ofFn fun i : Fin 32 => BitVec.ofNat 8 (n >>> (8 * (31 - i.val)))

/-- Bytes 0..15 of 32: the `left` of a Pair or Key (R84, R180). -/
def leftHalf (k : Vector Byte 32) : Block := Vector.ofFn fun i : Fin 16 => k[i.val]

/-- Bytes 16..31 of 32: the `right` of a Pair or Key (R84, R180). -/
def rightHalf (k : Vector Byte 32) : Block := Vector.ofFn fun i : Fin 16 => k[16 + i.val]

/-- R84: `DIN16`, the Block `b` with `b[i] = DIN[i]` for i = 0..15. -/
def State.din16 (s : State) : Block := leftHalf s.din

/-- R84: `DIN32`, the Key `k` with `k[i] = DIN[i]` for i = 0..31. -/
def State.din32 (s : State) : Key := s.din

/-- R84: the FSTEP Pair, `left[i] = DIN[i]` and `right[i] = DIN[16 + i]`. -/
def State.dinPair (s : State) : Block × Block := (leftHalf s.din, rightHalf s.din)

/-- R85: the index operand, `zext(ARG0)`, unsigned. -/
def State.index (s : State) : Nat := s.arg0.toNat

/-- R85: the round index `r` of RCON and FSTEP is legal in 1..32. -/
def roundIndexLegal (r : Nat) : Bool := 1 ≤ r && r ≤ 32

end Sys2Proof.Machine
end

