-- ==== Sys2Proof/Machine/Ops.lean ====
section
/-! DEFINITION. The named operations over the registers: host access to the window (20_memory.md R52, R55), the writes a
command can make, the two ways a completion step ends (60_exceptions.md R240, R241), and reset (70_reset_and_hazards.md
R270). -/

namespace Sys2Proof.Machine

/-! ### Host access to the window -/

/-- R55, R51: the window from 0x40 on: the scalar, control and identity registers; the reserved addresses 0x47..0x7D read
0x00 (R56). -/
def State.scalarRead (s : State) (a : WindowAddr) : Byte :=
  if a = 0x40#7 then s.len
  else if a = 0x41#7 then s.arg0
  else if a = 0x42#7 then s.arg1
  else if a = 0x43#7 then s.res
  else if a = 0x44#7 then s.cmd
  else if a = 0x45#7 then s.status
  else if a = 0x46#7 then s.errcode
  else if a = 0x7E#7 then 0x4B#8
  else if a = 0x7F#7 then 0x01#8
  else 0x00#8

/-- R55 `HostRead(a)`: no side effect on any state. -/
def State.hostRead (s : State) (a : WindowAddr) : Byte :=
  if h : a.toNat < 0x20 then s.din[a.toNat]
  else if h' : a.toNat < 0x40 then s.dout[a.toNat - 0x20]
  else s.scalarRead a

/-- R52 `HostWrite(a, v)`: dropped while BUSY = 1 (R53); a write to CMD accepts a command (R54); a read-only or reserved
address ignores it (R53, R56). -/
def State.hostWrite (s : State) (a : WindowAddr) (v : Byte) : State :=
  if s.busy then s
  else if h : a.toNat < 0x20 then { s with din := s.din.set a.toNat v }
  else if a = 0x40#7 then { s with len := v }
  else if a = 0x41#7 then { s with arg0 := v }
  else if a = 0x42#7 then { s with arg1 := v }
  else if a = 0x44#7 then { s with cmd := v, busy := true }
  else s

/-! ### The writes of a command -/

/-- `RES <- v` (R27). -/
def State.setRes (s : State) (v : Byte) : State := { s with res := v }

/-- 32 bytes with bytes 0..15 replaced by a Block. -/
def withLowBlock (d : Vector Byte 32) (b : Block) : Vector Byte 32 :=
  Vector.ofFn fun i : Fin 32 => if h : i.val < 16 then b[i.val] else d[i.val]

/-- The 32 bytes of a Pair: left in bytes 0..15, right in bytes 16..31. -/
def pairBytes (p : Block × Block) : Vector Byte 32 :=
  Vector.ofFn fun i : Fin 32 => if h : i.val < 16 then p.1[i.val] else p.2[i.val - 16]

/-- `DOUT16 <- b`: `DOUT[i] <- b[i]` for i = 0..15 (R11, R84); DOUT[16..31] keeps its value (R23). -/
def State.setDout16 (s : State) (b : Block) : State := { s with dout := withLowBlock s.dout b }

/-- R181: `DOUT[i] <- nl[i]; DOUT[16+i] <- nr[i]` for i = 0..15. -/
def State.setDoutPair (s : State) (p : Block × Block) : State := { s with dout := pairBytes p }

/-- All ten round keys at once, with KEYV (R32, R34). -/
def State.setKeys (s : State) (rk : Vector Block 10) (keyv : Bool) : State := { s with rk := rk, keyv := keyv }

/-! ### How a completion step ends -/

/-- The end of a successful command: `ERRCODE <- 0x00` (R33) and `BUSY <- 0` (R240). -/
def State.succeed (s : State) : State := { s with errcode := 0x00#8, busy := false }

/-- R241 `raise E`: `ERRCODE <- code(E); BUSY <- 0; end the step`, and no other write. KZCORE has no trap: this is all
that reporting an error does (R245). -/
def State.raise (s : State) (e : ErrorKind) : State := { s with errcode := errorCode e, busy := false }

/-- A command that only reports success. -/
def finish (s : State) : Host.Outcome State Fault Refusal := .next s.succeed

/-- A command with a byte result in RES. -/
def finishByte (s : State) (v : Byte) : Host.Outcome State Fault Refusal := .next (s.setRes v).succeed

/-- A command with a Block result in DOUT[0..15]. -/
def finishBlock (s : State) (b : Block) : Host.Outcome State Fault Refusal := .next (s.setDout16 b).succeed

/-- FSTEP's result, a Pair in DOUT[0..31]. -/
def finishPair (s : State) (p : Block × Block) : Host.Outcome State Fault Refusal := .next (s.setDoutPair p).succeed

/-- A command that writes the round-key file and KEYV. -/
def finishKeys (s : State) (rk : Vector Block 10) (keyv : Bool) : Host.Outcome State Fault Refusal :=
  .next (s.setKeys rk keyv).succeed

/-- A command that fails. -/
def failWith (s : State) (e : ErrorKind) : Host.Outcome State Fault Refusal := .next (s.raise e)

/-! ### Reset -/

/-- R270: every state element takes its reset value, and a pending command is abandoned. The agents outside KZCORE are
not reset by it (assumption log 12). -/
def State.coreReset (s : State) : State := { State.reset with env := s.env }

end Sys2Proof.Machine
end

