-- ==== Sys2Proof/Machine/FieldMultiplier.lean ====
section
/-! DEFINITION. The Field Multiplier (41_field_multiplier.md): field addition, `mul`, and GFMUL. -/

namespace Sys2Proof.Machine

/-- R11: `(a XOR b)[i] = a[i] XOR b[i]`; field addition is XOR (R100). -/
def xorBlock (a b : Block) : Block := Vector.ofFn fun i : Fin 16 => a[i.val] ^^^ b[i.val]

/-- R100: shift `a` left by one, keep 8 bits, and XOR 0xC3 if the bit shifted out was set. -/
def xtime (a : Byte) : Byte := if a.getLsbD 7 then (a <<< 1) ^^^ 0xC3#8 else a <<< 1

/-- R100: the iterations of the shift-multiply that are still to run, on accumulator, `a` and `b`. -/
def mulLoop : Nat → Byte → Byte → Byte → Byte
  | 0, acc, _, _ => acc
  | n + 1, acc, a, b => mulLoop n (if b.getLsbD 0 then acc ^^^ a else acc) (xtime a) (b >>> 1)

/-- R100: `mul(a, b)`, 8 iterations, in GF(2^8) modulo x^8+x^7+x^6+x+1. -/
def mul (a b : Byte) : Byte := mulLoop 8 0x00#8 a b

/-- R101: the allowed implementation's step on a 9-bit register, `XOR 0x1C3 when bit 8 is set`. -/
def xtimeNine (a : BitVec 9) : BitVec 9 := if (a <<< 1).getLsbD 8 then (a <<< 1) ^^^ 0x1C3#9 else a <<< 1

/-- R101: the shift-multiply of the allowed implementation, with `a` held in 9 bits. -/
def mulNineLoop : Nat → Byte → BitVec 9 → Byte → Byte
  | 0, acc, _, _ => acc
  | n + 1, acc, a, b =>
    mulNineLoop n (if b.getLsbD 0 then acc ^^^ a.extractLsb' 0 8 else acc) (xtimeNine a) (b >>> 1)

/-- R101: the product by the 9-bit implementation. -/
def mulNine (a b : Byte) : Byte := mulNineLoop 8 0x00#8 (a.setWidth 9) b

/-- R103: `RES <- mul(ARG0, ARG1); ERRCODE <- 0x00`. -/
def execGfmul (s : State) : Host.Outcome State Fault Refusal := finishByte s (mul s.arg0 s.arg1)

end Sys2Proof.Machine
end

