-- ==== Sys2Proof/Machine/Substitution.lean ====
section
/-! DEFINITION. The Substitution Box (42_substitution.md): the tables PI and PIINV, the Block substitutions, and SBOX,
SBOXI, SBLK, SBLKI. -/

namespace Sys2Proof.Machine

/-- R120: the rows of PI, row `x[7:4]` first to last, column `x[3:0]` left to right. The spec takes the values from
general knowledge (G2; assumption log 10). -/
def piRows : Vector Block 16 :=
  #v[blockOfHex 0xfceedd11cf6e3116fbc4fada23c5044d,
     blockOfHex 0xe977f0db932e99ba1736f1bb14cd5fc1,
     blockOfHex 0xf918655ae25cef21811c3c428b018e4f,
     blockOfHex 0x058402aee36a8fa0060bed987fd4d31f,
     blockOfHex 0xeb342c51eac848abf22a68a2fd3acecc,
     blockOfHex 0xb5700e56080c7612bf7213479cb75d87,
     blockOfHex 0x15a19629107b9ac7f391786f9d9eb2b1,
     blockOfHex 0x3275193dff358a7e6d54c680c3bd0d57,
     blockOfHex 0xdff524a93ea843c9d779d6f67c22b903,
     blockOfHex 0xe00fecde7a94b0bcdce828504e330a4a,
     blockOfHex 0xa79760731e0062441ab83882649f2641,
     blockOfHex 0xad454692275e552f8ca3a57d69d5953b,
     blockOfHex 0x0758b34086ac1df730376be488d9e789,
     blockOfHex 0xe11b83494c3ff8fe8d53aa90cad88561,
     blockOfHex 0x207167a42d2b095bcb9b25d0bee56c52,
     blockOfHex 0x59a674d2e6f4b4c0d166afc2394b63b6]

/-- R121: the rows of PIINV, laid out as those of PI. -/
def piInvRows : Vector Block 16 :=
  #v[blockOfHex 0xa52d328f0e3038c054e69e39557e5291,
     blockOfHex 0x6403575a1c6007182172a8d129c6a43f,
     blockOfHex 0xe0278d0c82eaaeb49a6349e542e415b7,
     blockOfHex 0xc806709d417519c9aafc4dbf2a7384d5,
     blockOfHex 0xc3af2b86a7b1b25b46d39ffdd40f9c2f,
     blockOfHex 0x9b43efd979b6537fc1f023e7255eb51e,
     blockOfHex 0xa2dfa6feac22f9e24abc35caee78056b,
     blockOfHex 0x51e159a3f27156116a8994658cbb773c,
     blockOfHex 0x7b28abd231dec45fcccf762cb8d82e36,
     blockOfHex 0xdb69b31495be62a13b1666e95c6c6dad,
     blockOfHex 0x37614bb9e3baf1a08583da47c5b033fa,
     blockOfHex 0x966f6ec2f650ff5da98e171b977dec58,
     blockOfHex 0xf71ffb7c090d7a674587dce84f1d4e04,
     blockOfHex 0xebf8f33e3dbd8a88ddcd0b1398029380,
     blockOfHex 0x90d02434cbedf4ce99104440923a0126,
     blockOfHex 0x121a4868f5818bc7d6200a08004cd774]

/-- The entry of a 16 by 16 table for input `x`: row `x[7:4]`, column `x[3:0]`. -/
def tableEntry (t : Vector Block 16) (x : Byte) : Byte :=
  (t[(x.extractLsb' 4 4).toNat]'((x.extractLsb' 4 4).isLt))[(x.extractLsb' 0 4).toNat]'((x.extractLsb' 0 4).isLt)

/-- R120: `PI[x]`. -/
def pi (x : Byte) : Byte := tableEntry piRows x

/-- R121: `PIINV[x]`. -/
def piInv (x : Byte) : Byte := tableEntry piInvRows x

/-- R123: `S(b)[i] = PI[b[i]]`. -/
def subBlock (b : Block) : Block := Vector.ofFn fun i : Fin 16 => pi b[i.val]

/-- R123: `Sinv(b)[i] = PIINV[b[i]]`. -/
def subInvBlock (b : Block) : Block := Vector.ofFn fun i : Fin 16 => piInv b[i.val]

/-- R124: `RES <- PI[zext(ARG0)]; ERRCODE <- 0x00`. -/
def execSbox (s : State) : Host.Outcome State Fault Refusal := finishByte s (pi s.arg0)

/-- R125: `RES <- PIINV[zext(ARG0)]; ERRCODE <- 0x00`. -/
def execSboxi (s : State) : Host.Outcome State Fault Refusal := finishByte s (piInv s.arg0)

/-- R126: `DOUT16 <- S(DIN16); ERRCODE <- 0x00`. -/
def execSblk (s : State) : Host.Outcome State Fault Refusal := finishBlock s (subBlock s.din16)

/-- R127: `DOUT16 <- Sinv(DIN16); ERRCODE <- 0x00`. -/
def execSblki (s : State) : Host.Outcome State Fault Refusal := finishBlock s (subInvBlock s.din16)

end Sys2Proof.Machine
end

