-- ==== Sys2Proof/Machine/LinearTransform.lean ====
section
/-! DEFINITION. The Linear Transform (43_linear_transform.md): LC, the elementary step and its inverse, L, Linv, LP and
LPinv, and RSTEP, RSTEPI, LXFM, LXFMI, LP, LPI. -/

namespace Sys2Proof.Machine

/-- R140: `LC[0..15]`. The spec takes the values from general knowledge (G3; assumption log 10). -/
def lc : Block := #v[148, 32, 133, 16, 194, 192, 1, 251, 1, 192, 194, 16, 133, 32, 148, 1]

/-- R141: the multiply-sum over the first 15 bytes of a Block. -/
def lsum (s : Block) : Byte :=
  (List.finRange 15).foldl (fun acc i => acc ^^^ mul s[i.val] lc[i.val]) 0x00#8

/-- R142: the elementary step; `s[15]` enters unmultiplied (C2). -/
def stepBlock (s : Block) : Block :=
  Vector.ofFn fun i : Fin 16 => if i.val = 0 then s[15] ^^^ lsum s else s[i.val - 1]

/-- The bytes shifted left by one, the last one open at 0x00 (`lsum` does not read it). -/
def shiftLeftBlock (s : Block) : Block :=
  Vector.ofFn fun i : Fin 16 => if h : i.val < 15 then s[i.val + 1] else 0x00#8

/-- R143: the inverse elementary step; the multiply-sum is taken over the shifted bytes. -/
def stepInvBlock (s : Block) : Block :=
  Vector.ofFn fun i : Fin 16 => if h : i.val < 15 then s[i.val + 1] else s[0] ^^^ lsum (shiftLeftBlock s)

/-- R144: `L(s) = Rstep^16(s)`. -/
def linear (s : Block) : Block := stepBlock^[16] s

/-- R144: `Linv(s) = Rinv^16(s)`. -/
def linearInv (s : Block) : Block := stepInvBlock^[16] s

/-- R145: `LP(b) = L(S(b))`. -/
def lpBlock (b : Block) : Block := linear (subBlock b)

/-- R145: `LPinv(b) = Sinv(Linv(b))`. -/
def lpInvBlock (b : Block) : Block := subInvBlock (linearInv b)

/-- R146: `DOUT16 <- Rstep(DIN16); ERRCODE <- 0x00`. -/
def execRstep (s : State) : Host.Outcome State Fault Refusal := finishBlock s (stepBlock s.din16)

/-- R147: `DOUT16 <- Rinv(DIN16); ERRCODE <- 0x00`. -/
def execRstepi (s : State) : Host.Outcome State Fault Refusal := finishBlock s (stepInvBlock s.din16)

/-- R148: `DOUT16 <- L(DIN16); ERRCODE <- 0x00`. -/
def execLxfm (s : State) : Host.Outcome State Fault Refusal := finishBlock s (linear s.din16)

/-- R149: `DOUT16 <- Linv(DIN16); ERRCODE <- 0x00`. -/
def execLxfmi (s : State) : Host.Outcome State Fault Refusal := finishBlock s (linearInv s.din16)

/-- R150: `DOUT16 <- LP(DIN16); ERRCODE <- 0x00`. -/
def execLp (s : State) : Host.Outcome State Fault Refusal := finishBlock s (lpBlock s.din16)

/-- R151: `DOUT16 <- LPinv(DIN16); ERRCODE <- 0x00`. -/
def execLpi (s : State) : Host.Outcome State Fault Refusal := finishBlock s (lpInvBlock s.din16)

end Sys2Proof.Machine
end

