-- ==== Sys2Proof/Machine/RoundConstants.lean ====
section
/-! DEFINITION. The round constants (44_round_constants.md) and RCON. -/

namespace Sys2Proof.Machine

/-- R170: `u_r`, all zero but the last byte, which is `r`. -/
def unitBlock (r : Nat) : Block :=
  Vector.ofFn fun i : Fin 16 => if i.val = 15 then BitVec.ofNat 8 r else 0x00#8

/-- R170: `C[r] = L(u_r)`, used for r = 1..32 only. -/
def roundConst (r : Nat) : Block := linear (unitBlock r)

/-- R172: an index outside 1..32 raises InvalidIndex; else `DOUT16 <- C[r]; ERRCODE <- 0x00`. -/
def execRcon (s : State) : Host.Outcome State Fault Refusal :=
  if roundIndexLegal s.index then finishBlock s (roundConst s.index) else failWith s .invalidIndex

end Sys2Proof.Machine
end

