-- ==== Sys2Proof/Machine/KeySchedule.lean ====
section
/-! DEFINITION. The key schedule (45_key_schedule.md) and FSTEP, KLOAD, KCLR, RKRD. -/

namespace Sys2Proof.Machine

/-- R180, R186: `F(left, right, r) = (LP(left XOR C[r]) XOR right, left)`, a simultaneous assignment. -/
def feistel (p : Block × Block) (r : Nat) : Block × Block :=
  (xorBlock (lpBlock (xorBlock p.1 (roundConst r))) p.2, p.1)

/-- R180: `n` rounds, the first of them with index `r`. -/
def feistelFrom : Nat → Nat → Block × Block → Block × Block
  | _, 0, p => p
  | r, n + 1, p => feistelFrom (r + 1) n (feistel p r)

/-- R180: the four groups of 8 rounds, the current pair appended after each. -/
def keySchedule (k : Key) : Vector Block 10 :=
  let p0 := (leftHalf k, rightHalf k)
  let p1 := feistelFrom 1 8 p0
  let p2 := feistelFrom 9 8 p1
  let p3 := feistelFrom 17 8 p2
  let p4 := feistelFrom 25 8 p3
  #v[p0.1, p0.2, p1.1, p1.2, p2.1, p2.2, p3.1, p3.2, p4.1, p4.2]

/-- R34, R183: the round-key file with every byte zero. -/
def zeroKeys : Vector Block 10 := Vector.replicate 10 (Vector.replicate 16 0x00#8)

/-- R181: an index outside 1..32 raises InvalidIndex; else one Feistel round of the Pair in DIN, written to DOUT[0..31]. -/
def execFstep (s : State) : Host.Outcome State Fault Refusal :=
  if roundIndexLegal s.index then finishPair s (feistel s.dinPair s.index) else failWith s .invalidIndex

/-- R182: `LEN != 32` raises InvalidKeyLength; else `RK <- KS(DIN32); KEYV <- 1; ERRCODE <- 0x00`. -/
def execKload (s : State) : Host.Outcome State Fault Refusal :=
  if s.len = 32#8 then finishKeys s (keySchedule s.din32) true else failWith s .invalidKeyLength

/-- R183: `RK[j] <- 0` for j = 0..9, `KEYV <- 0; ERRCODE <- 0x00`. -/
def execKclr (s : State) : Host.Outcome State Fault Refusal := finishKeys s zeroKeys false

/-- R184: `KEYV = 0` raises KeyNotLoaded, then `j > 9` InvalidIndex; else `DOUT16 <- RK[j]; ERRCODE <- 0x00`. -/
def execRkrd (s : State) : Host.Outcome State Fault Refusal :=
  if s.keyv = false then failWith s .keyNotLoaded
  else if h : s.index < 10 then finishBlock s s.rk[s.index]
  else failWith s .invalidIndex

end Sys2Proof.Machine
end

