-- ==== Sys2Proof/Machine/BlockTransform.lean ====
section
/-! DEFINITION. The block transform (46_block_transform.md) and ENC, DEC. -/

namespace Sys2Proof.Machine

/-- R210: `for i = 0 .. 8: b <- LP(b XOR rk[i])`, then `b XOR rk[9]`. -/
def encryptBlock (rk : Vector Block 10) (b : Block) : Block :=
  xorBlock ((List.finRange 9).foldl (fun x i => lpBlock (xorBlock x rk[i.val])) b) rk[9]

/-- R211: `for i = 9 downto 1: b <- LPinv(b XOR rk[i])`, then `b XOR rk[0]`; `rk[9]` is XORed exactly once (C1). The
right fold runs the indices from the last to the first. -/
def decryptBlock (rk : Vector Block 10) (b : Block) : Block :=
  xorBlock ((List.finRange 9).foldr (fun i x => lpInvBlock (xorBlock x rk[i.val + 1])) b) rk[0]

/-- The checks ENC and DEC share, in the order of R244: KeyNotLoaded, then `LEN != 16` InvalidBlockLength. -/
def finishCipher (s : State) (f : Vector Block 10 → Block → Block) : Host.Outcome State Fault Refusal :=
  if s.keyv = false then failWith s .keyNotLoaded
  else if s.len = 16#8 then finishBlock s (f s.rk s.din16)
  else failWith s .invalidBlockLength

/-- R212: `DOUT16 <- E(RK, DIN16); ERRCODE <- 0x00`, after its checks. -/
def execEnc (s : State) : Host.Outcome State Fault Refusal := finishCipher s encryptBlock

/-- R213: `DOUT16 <- D(RK, DIN16); ERRCODE <- 0x00`, after its checks. -/
def execDec (s : State) : Host.Outcome State Fault Refusal := finishCipher s decryptBlock

end Sys2Proof.Machine
end

