-- ==== Sys2Proof/Machine/Control.lean ====
section
/-! DEFINITION. NOP (47_control.md). -/

namespace Sys2Proof.Machine

/-- R230: `ERRCODE <- 0x00`, and nothing else but the end of the completion step. -/
def execNop (s : State) : Host.Outcome State Fault Refusal := finish s

end Sys2Proof.Machine
end

