-- ==== Sys2Proof/Machine/Dispatch.lean ====
section
/-! DEFINITION. One arm per command of 30_encoding.md R81: the pseudocode the completion step performs (60_exceptions.md
R240). -/

namespace Sys2Proof.Machine

def exec (i : Instr) (s : State) : Host.Outcome State Fault Refusal :=
  match i with
  | .nop => Sys2Proof.Machine.execNop s
  | .gfmul => Sys2Proof.Machine.execGfmul s
  | .sbox => Sys2Proof.Machine.execSbox s
  | .sboxi => Sys2Proof.Machine.execSboxi s
  | .sblk => Sys2Proof.Machine.execSblk s
  | .sblki => Sys2Proof.Machine.execSblki s
  | .rstep => Sys2Proof.Machine.execRstep s
  | .rstepi => Sys2Proof.Machine.execRstepi s
  | .lxfm => Sys2Proof.Machine.execLxfm s
  | .lxfmi => Sys2Proof.Machine.execLxfmi s
  | .lp => Sys2Proof.Machine.execLp s
  | .lpi => Sys2Proof.Machine.execLpi s
  | .rcon => Sys2Proof.Machine.execRcon s
  | .fstep => Sys2Proof.Machine.execFstep s
  | .kload => Sys2Proof.Machine.execKload s
  | .kclr => Sys2Proof.Machine.execKclr s
  | .rkrd => Sys2Proof.Machine.execRkrd s
  | .enc => Sys2Proof.Machine.execEnc s
  | .dec => Sys2Proof.Machine.execDec s

end Sys2Proof.Machine
end

