-- ==== Sys2Proof/Machine/Engine.lean ====
section
/-! DEFINITION. The engine's one kind of step, the completion step (60_exceptions.md R240). -/

namespace Sys2Proof.Machine

/-- R240 `Complete()`: decode CMD; an illegal code raises IllegalCommand (R243), a command performs its rule. Each
meaning ends with `BUSY <- 0`. -/
def complete (s : State) : Host.Outcome State Fault Refusal :=
  match decode s.cmd with
  | .command i => exec i s
  | .illegal => failWith s .illegalCommand

/-- The engine's turn: the completion step is enabled exactly when BUSY = 1 (R240); otherwise the engine is idle (R254)
and the turn changes nothing (assumption log 5). -/
def engineStep (s : State) : Host.Outcome State Fault Refusal := if s.busy then complete s else .next s

end Sys2Proof.Machine
end

