-- ==== Sys2Proof/Config.lean ====
section
/-! DEFINITION. What an implementation fixes and the spec leaves open (00_scope.md R8, 70_reset_and_hazards.md R280), and
the model's free values. None of these has a body: nothing can be proved of their values. -/

namespace Sys2Proof.Config

/-- The part of LAT(cmd) above its least value. -/
opaque extraCycles : Instr → Nat

/-- R8, R280, I2: LAT(cmd), `a finite number of engine clock cycles, at least 1, per command; the model does not depend
on it`. Nothing in the model reads it (assumption log 9). -/
def lat (i : Instr) : Nat := extraCycles i + 1

/-- R88 gives BNZ `the value of the preceding RD`; this is the value it tests where no RD precedes it, one fresh value for
each draw (assumption log 4). DESIGN CHOICE: a free value. -/
opaque freeBranchValue : Nat → Byte

end Sys2Proof.Config
end

