-- ==== Sys2Proof/Machine/HostAgent.lean ====
section
/-! DEFINITION. The host as an agent: one step of its program (30_encoding.md R88), the pseudo-instructions it may be
written with (R90), and whose turn is next (20_memory.md R62). -/

namespace Sys2Proof.Machine

/-! ### Whose turn is next -/

/-- R62: the next turn is the first of the turns laid out; where none is left, the pending completion comes first and then
the host, so that every accepted command completes (R246 weak fairness; assumption log 1). -/
def State.nextTurn (s : State) : Turn :=
  match s.env.turns with
  | t :: _ => t
  | [] => if s.busy then .engine else .host

/-- The state with the first of the turns laid out taken off. -/
def State.popTurn (s : State) : State := { s with env := { s.env with turns := s.env.turns.tail } }

/-! ### The host's program -/

/-- The host goes on to the next position of its program. -/
def State.hostAdvance (s : State) : State := { s with env := { s.env with pos := s.env.pos + 1 } }

/-- The host goes to a position of its program (a label, R88). -/
def State.hostGoto (s : State) (p : Nat) : State := { s with env := { s.env with pos := p } }

/-- The value read reaches the host. -/
def State.hostReceive (s : State) (v : Byte) : State := { s with env := { s.env with reads := v :: s.env.reads } }

/-- `v` of R88, the value of the preceding RD; where none precedes, a free value (assumption log 4). -/
def State.branchValue (s : State) : Byte :=
  match s.env.reads with
  | v :: _ => v
  | [] => Config.freeBranchValue s.env.draws

/-- The state once a branch has taken its value: a free value is drawn only where no RD precedes. -/
def State.drawBranchValue (s : State) : State :=
  match s.env.reads with
  | _ :: _ => s
  | [] => { s with env := { s.env with draws := s.env.draws + 1 } }

/-- R88: one operation of the host. -/
def hostExec (o : HostOp) (s : State) : State :=
  match o with
  | .wr a v => (s.hostWrite a v).hostAdvance
  | .rd a => (s.hostReceive (s.hostRead a)).hostAdvance
  | .bnz label m =>
    if s.branchValue &&& m ≠ 0x00#8 then s.drawBranchValue.hostGoto label else s.drawBranchValue.hostAdvance

/-- The host's turn: the operation at its position, or nothing where its program is over (assumption log 11). -/
def hostStep (s : State) : State :=
  match s.env.prog[s.env.pos]? with
  | some o => hostExec o s
  | none => s

/-! ### Pseudo-instructions -/

/-- R90: the expansion of a pseudo-instruction that starts at position `p` of the program. -/
def expandPseudo (p : Nat) : Pseudo → List HostOp
  | .op o => [o]
  | .cmd i => [.wr 0x44#7 (encode i)]
  | .wait => [.rd 0x45#7, .bnz p 0x01#8]
  | .wrblk a h => h.zipIdx.map fun x => .wr (a + BitVec.ofNat 7 x.2) x.1
  | .rdblk a n => (List.range n).map fun i => .rd (a + BitVec.ofNat 7 i)
  | .setlen n => [.wr 0x40#7 n]
  | .seta0 v => [.wr 0x41#7 v]
  | .seta1 v => [.wr 0x42#7 v]
  | .run i => [.wr 0x44#7 (encode i), .rd 0x45#7, .bnz (p + 1) 0x01#8]

/-- R90: the host program a list of pseudo-instructions stands for, from position `p` on. -/
def assembleFrom : Nat → List Pseudo → List HostOp
  | _, [] => []
  | p, q :: rest => expandPseudo p q ++ assembleFrom (p + (expandPseudo p q).length) rest

/-- R90: a whole host program. -/
def assemble (l : List Pseudo) : List HostOp := assembleFrom 0 l

end Sys2Proof.Machine
end

