-- ==== Sys2Proof/Machine/Step.lean ====
section
/-! DEFINITION. One step of an execution: an interleaving of host steps, completion steps and resets (20_memory.md R62,
70_reset_and_hazards.md R270). -/

namespace Sys2Proof.Machine

/-- The next agent's step, on the state with its turn taken off. -/
def step (s : State) : Host.Outcome State Fault Refusal :=
  match s.nextTurn with
  | .host => .next (hostStep s.popTurn)
  | .engine => engineStep s.popTurn
  | .reset => .next s.popTurn.coreReset

/-- The state in which the command byte of `w` (its low `nbits` bits, the rest zero) has been accepted (R54) and the
engine has the next turn, so that the very next step is its completion step (assumption log 3). -/
def State.withFetchWord (s : State) (nbits w : Nat) : State :=
  { s with cmd := BitVec.ofNat 8 (w % 2 ^ nbits), busy := true, env := { s.env with turns := .engine :: s.env.turns } }

end Sys2Proof.Machine
end

