-- ==== Sys2Proof/Safety.lean ====
section
/-! DEFINITION. The terms statements are written in: equality of KZCORE's own state, the invariant of the register file,
and runs. -/

namespace Sys2Proof.Machine

/-- `t` has the architectural state (R20) of `s`; only the agents outside the engine may differ. -/
def State.sameCore (s t : State) : Prop := t = { s with env := t.env }

/-- R32, R33, R34: ERRCODE is one of its six legal values; where KEYV is set, RK is the key schedule of some master key;
where it is not, RK is all zero. -/
def State.Inv (s : State) : Prop :=
  s.errcode.toNat ≤ 5 ∧
  (s.keyv = true → ∃ k : Key, s.rk = keySchedule k) ∧
  (s.keyv = false → s.rk = zeroKeys)

/-- `k` steps of the machine from `s` end in `t`, none of them a fault or a refusal. -/
def RunsTo (k : Nat) (s t : State) : Prop := Host.Core.run Sys2Proof.core k s = .next t

end Sys2Proof.Machine
end

