-- ==== Sys2Proof/WellFormed.lean ====
section
/-! DEFINITION. Well-formedness of commands, bus words, host programs and pseudo-instructions. -/

namespace Sys2Proof

/-- R80: a command byte has no register-number, immediate or mode fields, so there is nothing to check: every
constructor is well formed. -/
def Instr.wf (_ : Instr) : Bool := true

/-- R89: a read's data byte is 0x00. -/
def busWordWf (t : BusWord) : Bool := t.getLsbD 15 || t.extractLsb' 0 8 == 0x00#8

/-- R88: a branch goes to a position in the host program; the position right after the last operation is its end. -/
def HostOp.wf (length : Nat) : HostOp → Bool
  | .wr _ _ => true
  | .rd _ => true
  | .bnz label _ => label ≤ length

/-- R88: every BNZ has an RD before it, so that `the preceding RD` exists. -/
def readsBeforeBranches : Bool → List HostOp → Bool
  | _, [] => true
  | seen, .wr _ _ :: rest => readsBeforeBranches seen rest
  | _, .rd _ :: rest => readsBeforeBranches true rest
  | seen, .bnz _ _ :: rest => seen && readsBeforeBranches seen rest

/-- A host program: its branch targets are positions in it, and no branch stands before the first read. -/
def hostProgramWf (p : List HostOp) : Bool := p.all (HostOp.wf p.length) && readsBeforeBranches false p

/-- R90 with R50: a block transfer stays inside the 128-byte window. -/
def Pseudo.wf : Pseudo → Bool
  | .op _ => true
  | .cmd i => i.wf
  | .wait => true
  | .wrblk a h => a.toNat + h.length ≤ 128
  | .rdblk a n => a.toNat + n ≤ 128
  | .setlen _ => true
  | .seta0 _ => true
  | .seta1 _ => true
  | .run i => i.wf

end Sys2Proof
end

