-- ==== Sys2Proof/Certificates/Slice0/Obligations.lean ====
section
/-! DEFINITION. The statements for the provers, from the numbered rules of spec/. -/

open Sys2Proof Sys2Proof.Machine

/-! ### Reset -/

/-- R39: every state element at its reset value, as held and as the host reads it, and the identity constants; the round
keys cannot be observed, since ENC, DEC and RKRD refuse to run. -/
def Obligations.ResetValues : Prop :=
  (∀ i : Fin 32, State.reset.din[i.val] = 0x00#8) ∧ (∀ i : Fin 32, State.reset.dout[i.val] = 0x00#8) ∧
  State.reset.len = 0x00#8 ∧ State.reset.arg0 = 0x00#8 ∧ State.reset.arg1 = 0x00#8 ∧ State.reset.res = 0x00#8 ∧
  State.reset.cmd = 0x00#8 ∧ State.reset.busy = false ∧ State.reset.keyv = false ∧ State.reset.errcode = 0x00#8 ∧
  (∀ (j : Fin 10) (i : Fin 16), State.reset.rk[j.val][i.val] = 0x00#8) ∧
  (∀ a : WindowAddr, a.toNat ≤ 0x46 → State.reset.hostRead a = 0x00#8) ∧
  State.reset.hostRead 0x7E#7 = 0x4B#8 ∧ State.reset.hostRead 0x7F#7 = 0x01#8 ∧
  (∀ i, i = .enc ∨ i = .dec ∨ i = .rkrd →
    exec i State.reset = .next { State.reset with errcode := 0x03#8, busy := false })

/-- R270: a reset, at any time and also while BUSY = 1, gives every state element its reset value; nothing of a pending
command appears. The turns, and that reset leaves the host agent alone, are the model's choice (assumption log 1, 12). -/
def Obligations.ResetEventGivesResetValues : Prop :=
  ∀ s : State, s.env.turns.head? = some .reset → ∃ t, step s = .next t ∧ State.reset.sameCore t

/-! ### Encoding -/

/-- R81, R86, R87: the 19 codes decode to their commands, and the other 237 of the 256 codes are illegal. -/
def Obligations.DecoderFollowsOpcodeMap : Prop :=
  decode 0x00#8 = .command .nop ∧ decode 0x01#8 = .command .gfmul ∧ decode 0x02#8 = .command .sbox ∧
  decode 0x03#8 = .command .sboxi ∧ decode 0x10#8 = .command .sblk ∧ decode 0x11#8 = .command .sblki ∧
  decode 0x12#8 = .command .rstep ∧ decode 0x13#8 = .command .rstepi ∧ decode 0x14#8 = .command .lxfm ∧
  decode 0x15#8 = .command .lxfmi ∧ decode 0x16#8 = .command .lp ∧ decode 0x17#8 = .command .lpi ∧
  decode 0x20#8 = .command .rcon ∧ decode 0x21#8 = .command .fstep ∧ decode 0x30#8 = .command .kload ∧
  decode 0x31#8 = .command .kclr ∧ decode 0x32#8 = .command .rkrd ∧ decode 0x40#8 = .command .enc ∧
  decode 0x41#8 = .command .dec ∧
  (∀ c : Byte, c ∉ ([0x00, 0x01, 0x02, 0x03, 0x10, 0x11, 0x12, 0x13, 0x14, 0x15, 0x16, 0x17, 0x20, 0x21, 0x30, 0x31,
    0x32, 0x40, 0x41] : List Byte) → decode c = .illegal) ∧
  ((List.range 256).filter fun n => decode (BitVec.ofNat 8 n) = .illegal).length = 237

/-- Decode and encode agree, both ways, for every command: no bit of a code is dropped and no code has two readings. -/
def Obligations.DecodeEncodeAgree : Prop :=
  (∀ i : Instr, i.wf = true → decode (encode i) = .command i) ∧
  (∀ (c : Byte) (i : Instr), decode c = .command i → encode i = c)

/-- R89 with assumption log 7: a bus word and its access determine each other; the words of no access are exactly the ill
formed ones. -/
def Obligations.BusWordsRoundTrip : Prop :=
  (∀ x : Access, decodeAccess (encodeAccess x) = .access x ∧ busWordWf (encodeAccess x) = true) ∧
  (∀ (t : BusWord) (x : Access), decodeAccess t = .access x → encodeAccess x = t) ∧
  (∀ t : BusWord, busWordWf t = false ↔ ∃ a d, decodeAccess t = .readWithData a d ∧ d ≠ 0x00#8)

/-! ### Steps -/

/-- R240: at the engine's turn with BUSY = 1, a step is the completion of the command CMD decodes to. The engine's turn is
the first one laid out, or comes by itself where none is (the model's own; assumption log 1). -/
def Obligations.StepRunsDecodedCommand : Prop :=
  ∀ (s : State) (i : Instr), s.busy = true → (s.env.turns.head? = some .engine ∨ s.env.turns = []) →
    decode s.cmd = .command i →
    step s = exec i { s with env := { s.env with turns := s.env.turns.tail } }

/-- R243: the completion step of an illegal code writes ERRCODE 0x05 and BUSY, and nothing else. The turns are the model's
choice (assumption log 1). -/
def Obligations.IllegalCodeReportsIllegalCommand : Prop :=
  ∀ s : State, s.busy = true → decode s.cmd = .illegal → (s.env.turns.head? = some .engine ∨ s.env.turns = []) →
    step s = .next { s with errcode := 0x05#8, busy := false, env := { s.env with turns := s.env.turns.tail } }

/-- R240, R254: the completion step is enabled only where BUSY = 1; an idle engine's turn changes nothing of KZCORE. That
such a turn can be laid out, and passes, is the model's choice (assumption log 1, 5). -/
def Obligations.IdleEngineChangesNothing : Prop :=
  ∀ s : State, s.busy = false → s.env.turns.head? = some .engine → ∃ t, step s = .next t ∧ s.sameCore t

/-- R57, R245, R246: every step of every state answers a next state; nothing faults and nothing is refused. What the host
agent does at the end of its program and before its first read is the model's choice (assumption log 4, 11). -/
def Obligations.EveryStepAnswersNext : Prop := ∀ s : State, ∃ t, step s = .next t

/-! ### Byte commands and NOP -/

/-- R230: NOP reports success and does nothing else; it is what CMD holds after reset. -/
def Obligations.NopOnlyReportsSuccess : Prop :=
  encode .nop = 0x00#8 ∧
  (∀ s : State, exec .nop s = .next { s with errcode := 0x00#8, busy := false }) ∧
  (∀ s : State, s.busy = false → s.hostWrite 0x44#7 0x00#8 = { s with cmd := 0x00#8, busy := true }) ∧
  decode State.reset.cmd = .command .nop

/-- R103: GFMUL writes the product of ARG0 and ARG1 to RES and clears ERR; with the rule's corner cases. -/
def Obligations.GfmulWritesProduct : Prop :=
  encode .gfmul = 0x01#8 ∧
  (∀ s : State, exec .gfmul s = .next { s with res := mul s.arg0 s.arg1, errcode := 0x00#8, busy := false }) ∧
  (∀ a : Byte, mul a 0x00#8 = 0x00#8 ∧ mul 0x00#8 a = 0x00#8 ∧ mul a 0x01#8 = a ∧ mul 0x01#8 a = a) ∧
  mul 0x02#8 0x80#8 = 0xC3#8 ∧ mul 0xFF#8 0xFF#8 = 0x06#8 ∧ mul 0x80#8 0x80#8 = 0x77#8 ∧ mul 0x94#8 0x02#8 = 0xEB#8

/-- R124, R125: SBOX and SBOXI write the table entry of ARG0 to RES; with the rules' corner cases, and the two tables whole,
row by row as R120 and R121 print them. The spec takes PI's values from general knowledge (assumption log 10). -/
def Obligations.SboxCommandsWriteTableEntry : Prop :=
  encode .sbox = 0x02#8 ∧ encode .sboxi = 0x03#8 ∧
  (∀ s : State, exec .sbox s = .next { s with res := pi s.arg0, errcode := 0x00#8, busy := false }) ∧
  (∀ s : State, exec .sboxi s = .next { s with res := piInv s.arg0, errcode := 0x00#8, busy := false }) ∧
  pi 0x00#8 = 0xFC#8 ∧ pi 0xFF#8 = 0xB6#8 ∧ pi 0xA5#8 = 0x00#8 ∧ pi 0x11#8 = 0x77#8 ∧
  piInv 0x00#8 = 0xA5#8 ∧ piInv 0xFC#8 = 0x00#8 ∧ piInv 0xFF#8 = 0x74#8 ∧ piInv 0xB6#8 = 0xFF#8 ∧
  ((List.range 256).map fun x => (pi (BitVec.ofNat 8 x)).toNat) =
      [0xfc, 0xee, 0xdd, 0x11, 0xcf, 0x6e, 0x31, 0x16, 0xfb, 0xc4, 0xfa, 0xda, 0x23, 0xc5, 0x04, 0x4d] ++
      [0xe9, 0x77, 0xf0, 0xdb, 0x93, 0x2e, 0x99, 0xba, 0x17, 0x36, 0xf1, 0xbb, 0x14, 0xcd, 0x5f, 0xc1] ++
      [0xf9, 0x18, 0x65, 0x5a, 0xe2, 0x5c, 0xef, 0x21, 0x81, 0x1c, 0x3c, 0x42, 0x8b, 0x01, 0x8e, 0x4f] ++
      [0x05, 0x84, 0x02, 0xae, 0xe3, 0x6a, 0x8f, 0xa0, 0x06, 0x0b, 0xed, 0x98, 0x7f, 0xd4, 0xd3, 0x1f] ++
      [0xeb, 0x34, 0x2c, 0x51, 0xea, 0xc8, 0x48, 0xab, 0xf2, 0x2a, 0x68, 0xa2, 0xfd, 0x3a, 0xce, 0xcc] ++
      [0xb5, 0x70, 0x0e, 0x56, 0x08, 0x0c, 0x76, 0x12, 0xbf, 0x72, 0x13, 0x47, 0x9c, 0xb7, 0x5d, 0x87] ++
      [0x15, 0xa1, 0x96, 0x29, 0x10, 0x7b, 0x9a, 0xc7, 0xf3, 0x91, 0x78, 0x6f, 0x9d, 0x9e, 0xb2, 0xb1] ++
      [0x32, 0x75, 0x19, 0x3d, 0xff, 0x35, 0x8a, 0x7e, 0x6d, 0x54, 0xc6, 0x80, 0xc3, 0xbd, 0x0d, 0x57] ++
      [0xdf, 0xf5, 0x24, 0xa9, 0x3e, 0xa8, 0x43, 0xc9, 0xd7, 0x79, 0xd6, 0xf6, 0x7c, 0x22, 0xb9, 0x03] ++
      [0xe0, 0x0f, 0xec, 0xde, 0x7a, 0x94, 0xb0, 0xbc, 0xdc, 0xe8, 0x28, 0x50, 0x4e, 0x33, 0x0a, 0x4a] ++
      [0xa7, 0x97, 0x60, 0x73, 0x1e, 0x00, 0x62, 0x44, 0x1a, 0xb8, 0x38, 0x82, 0x64, 0x9f, 0x26, 0x41] ++
      [0xad, 0x45, 0x46, 0x92, 0x27, 0x5e, 0x55, 0x2f, 0x8c, 0xa3, 0xa5, 0x7d, 0x69, 0xd5, 0x95, 0x3b] ++
      [0x07, 0x58, 0xb3, 0x40, 0x86, 0xac, 0x1d, 0xf7, 0x30, 0x37, 0x6b, 0xe4, 0x88, 0xd9, 0xe7, 0x89] ++
      [0xe1, 0x1b, 0x83, 0x49, 0x4c, 0x3f, 0xf8, 0xfe, 0x8d, 0x53, 0xaa, 0x90, 0xca, 0xd8, 0x85, 0x61] ++
      [0x20, 0x71, 0x67, 0xa4, 0x2d, 0x2b, 0x09, 0x5b, 0xcb, 0x9b, 0x25, 0xd0, 0xbe, 0xe5, 0x6c, 0x52] ++
      [0x59, 0xa6, 0x74, 0xd2, 0xe6, 0xf4, 0xb4, 0xc0, 0xd1, 0x66, 0xaf, 0xc2, 0x39, 0x4b, 0x63, 0xb6] ∧
  ((List.range 256).map fun x => (piInv (BitVec.ofNat 8 x)).toNat) =
      [0xa5, 0x2d, 0x32, 0x8f, 0x0e, 0x30, 0x38, 0xc0, 0x54, 0xe6, 0x9e, 0x39, 0x55, 0x7e, 0x52, 0x91] ++
      [0x64, 0x03, 0x57, 0x5a, 0x1c, 0x60, 0x07, 0x18, 0x21, 0x72, 0xa8, 0xd1, 0x29, 0xc6, 0xa4, 0x3f] ++
      [0xe0, 0x27, 0x8d, 0x0c, 0x82, 0xea, 0xae, 0xb4, 0x9a, 0x63, 0x49, 0xe5, 0x42, 0xe4, 0x15, 0xb7] ++
      [0xc8, 0x06, 0x70, 0x9d, 0x41, 0x75, 0x19, 0xc9, 0xaa, 0xfc, 0x4d, 0xbf, 0x2a, 0x73, 0x84, 0xd5] ++
      [0xc3, 0xaf, 0x2b, 0x86, 0xa7, 0xb1, 0xb2, 0x5b, 0x46, 0xd3, 0x9f, 0xfd, 0xd4, 0x0f, 0x9c, 0x2f] ++
      [0x9b, 0x43, 0xef, 0xd9, 0x79, 0xb6, 0x53, 0x7f, 0xc1, 0xf0, 0x23, 0xe7, 0x25, 0x5e, 0xb5, 0x1e] ++
      [0xa2, 0xdf, 0xa6, 0xfe, 0xac, 0x22, 0xf9, 0xe2, 0x4a, 0xbc, 0x35, 0xca, 0xee, 0x78, 0x05, 0x6b] ++
      [0x51, 0xe1, 0x59, 0xa3, 0xf2, 0x71, 0x56, 0x11, 0x6a, 0x89, 0x94, 0x65, 0x8c, 0xbb, 0x77, 0x3c] ++
      [0x7b, 0x28, 0xab, 0xd2, 0x31, 0xde, 0xc4, 0x5f, 0xcc, 0xcf, 0x76, 0x2c, 0xb8, 0xd8, 0x2e, 0x36] ++
      [0xdb, 0x69, 0xb3, 0x14, 0x95, 0xbe, 0x62, 0xa1, 0x3b, 0x16, 0x66, 0xe9, 0x5c, 0x6c, 0x6d, 0xad] ++
      [0x37, 0x61, 0x4b, 0xb9, 0xe3, 0xba, 0xf1, 0xa0, 0x85, 0x83, 0xda, 0x47, 0xc5, 0xb0, 0x33, 0xfa] ++
      [0x96, 0x6f, 0x6e, 0xc2, 0xf6, 0x50, 0xff, 0x5d, 0xa9, 0x8e, 0x17, 0x1b, 0x97, 0x7d, 0xec, 0x58] ++
      [0xf7, 0x1f, 0xfb, 0x7c, 0x09, 0x0d, 0x7a, 0x67, 0x45, 0x87, 0xdc, 0xe8, 0x4f, 0x1d, 0x4e, 0x04] ++
      [0xeb, 0xf8, 0xf3, 0x3e, 0x3d, 0xbd, 0x8a, 0x88, 0xdd, 0xcd, 0x0b, 0x13, 0x98, 0x02, 0x93, 0x80] ++
      [0x90, 0xd0, 0x24, 0x34, 0xcb, 0xed, 0xf4, 0xce, 0x99, 0x10, 0x44, 0x40, 0x92, 0x3a, 0x01, 0x26] ++
      [0x12, 0x1a, 0x48, 0x68, 0xf5, 0x81, 0x8b, 0xc7, 0xd6, 0x20, 0x0a, 0x08, 0x00, 0x4c, 0xd7, 0x74] ∧
  (∀ s t u v : State, exec .sbox s = .next t → u.arg0 = t.res → exec .sboxi u = .next v → v.res = s.arg0)

/-- R102: `mul` is commutative, associative, distributes over XOR, has zero and one; every non-zero byte has an inverse. -/
def Obligations.FieldLaws : Prop :=
  (∀ a b : Byte, mul a b = mul b a) ∧ (∀ a b c : Byte, mul (mul a b) c = mul a (mul b c)) ∧
  (∀ a b c : Byte, mul a (b ^^^ c) = mul a b ^^^ mul a c) ∧
  (∀ a : Byte, mul a 0x00#8 = 0x00#8) ∧ (∀ a : Byte, mul a 0x01#8 = a) ∧
  (∀ a : Byte, a ≠ 0x00#8 → ∃ b, mul a b = 0x01#8)

/-- R101: the 9-bit implementation that XORs 0x1C3 gives the same product for all operand pairs. -/
def Obligations.NineBitReductionAgrees : Prop := ∀ a b : Byte, mulNine a b = mul a b

/-- R122: PI and PIINV are inverse on every byte, and PI has no fixed point. -/
def Obligations.SubstitutionIsBijective : Prop :=
  (∀ x : Byte, piInv (pi x) = x) ∧ (∀ x : Byte, pi (piInv x) = x) ∧ (∀ x : Byte, pi x ≠ x)

/-! ### Block commands -/

/-- R126, R127: SBLK and SBLKI substitute each of DIN[0..15] into DOUT[0..15] and change nothing else. -/
def Obligations.BlockSubstitutionsActBytewise : Prop :=
  encode .sblk = 0x10#8 ∧ encode .sblki = 0x11#8 ∧
  ∀ s : State,
    (∃ t, exec .sblk s = .next t ∧ (∀ i : Fin 16, t.dout[i.val] = pi s.din[i.val]) ∧
      (∀ i : Fin 16, t.dout[16 + i.val] = s.dout[16 + i.val]) ∧
      t = { s with dout := t.dout, errcode := 0x00#8, busy := false }) ∧
    (∃ t, exec .sblki s = .next t ∧ (∀ i : Fin 16, t.dout[i.val] = piInv s.din[i.val]) ∧
      (∀ i : Fin 16, t.dout[16 + i.val] = s.dout[16 + i.val]) ∧
      t = { s with dout := t.dout, errcode := 0x00#8, busy := false })

/-- R142, R146: RSTEP's feedback byte, from the 15 products with the constants of R140 written out, and its shift. -/
def Obligations.RstepShiftsInFeedback : Prop :=
  encode .rstep = 0x12#8 ∧
  ∀ s : State, ∃ t, exec .rstep s = .next t ∧
    t.dout[0] = s.din[15] ^^^ mul s.din[0] 0x94#8 ^^^ mul s.din[1] 0x20#8 ^^^ mul s.din[2] 0x85#8 ^^^
      mul s.din[3] 0x10#8 ^^^ mul s.din[4] 0xC2#8 ^^^ mul s.din[5] 0xC0#8 ^^^ mul s.din[6] 0x01#8 ^^^
      mul s.din[7] 0xFB#8 ^^^ mul s.din[8] 0x01#8 ^^^ mul s.din[9] 0xC0#8 ^^^ mul s.din[10] 0xC2#8 ^^^
      mul s.din[11] 0x10#8 ^^^ mul s.din[12] 0x85#8 ^^^ mul s.din[13] 0x20#8 ^^^ mul s.din[14] 0x94#8 ∧
    (∀ i : Fin 15, t.dout[i.val + 1] = s.din[i.val]) ∧
    (∀ i : Fin 16, t.dout[16 + i.val] = s.dout[16 + i.val]) ∧
    t = { s with dout := t.dout, errcode := 0x00#8, busy := false }

/-- R143, R147: RSTEPI's shift, and its last byte recomputed from the shifted bytes. -/
def Obligations.RstepiRecomputesDroppedByte : Prop :=
  encode .rstepi = 0x13#8 ∧
  ∀ s : State, ∃ t, exec .rstepi s = .next t ∧
    (∀ i : Fin 15, t.dout[i.val] = s.din[i.val + 1]) ∧
    t.dout[15] = s.din[0] ^^^ mul s.din[1] 0x94#8 ^^^ mul s.din[2] 0x20#8 ^^^ mul s.din[3] 0x85#8 ^^^
      mul s.din[4] 0x10#8 ^^^ mul s.din[5] 0xC2#8 ^^^ mul s.din[6] 0xC0#8 ^^^ mul s.din[7] 0x01#8 ^^^
      mul s.din[8] 0xFB#8 ^^^ mul s.din[9] 0x01#8 ^^^ mul s.din[10] 0xC0#8 ^^^ mul s.din[11] 0xC2#8 ^^^
      mul s.din[12] 0x10#8 ^^^ mul s.din[13] 0x85#8 ^^^ mul s.din[14] 0x20#8 ^^^ mul s.din[15] 0x94#8 ∧
    (∀ i : Fin 16, t.dout[16 + i.val] = s.dout[16 + i.val]) ∧
    t = { s with dout := t.dout, errcode := 0x00#8, busy := false }

/-- R144, R145, R148 to R151: LXFM, LXFMI, LP and LPI write L, Linv, LP and LPinv of DIN16, with L the elementary step 16
times, and change nothing else. -/
def Obligations.FullTransformsWriteResult : Prop :=
  encode .lxfm = 0x14#8 ∧ encode .lxfmi = 0x15#8 ∧ encode .lp = 0x16#8 ∧ encode .lpi = 0x17#8 ∧
  ∀ s : State,
    (∃ t, exec .lxfm s = .next t ∧ leftHalf t.dout = stepBlock^[16] (leftHalf s.din) ∧
      rightHalf t.dout = rightHalf s.dout ∧ t = { s with dout := t.dout, errcode := 0x00#8, busy := false }) ∧
    (∃ t, exec .lxfmi s = .next t ∧ leftHalf t.dout = stepInvBlock^[16] (leftHalf s.din) ∧
      rightHalf t.dout = rightHalf s.dout ∧ t = { s with dout := t.dout, errcode := 0x00#8, busy := false }) ∧
    (∃ t, exec .lp s = .next t ∧ leftHalf t.dout = stepBlock^[16] (subBlock (leftHalf s.din)) ∧
      rightHalf t.dout = rightHalf s.dout ∧ t = { s with dout := t.dout, errcode := 0x00#8, busy := false }) ∧
    (∃ t, exec .lpi s = .next t ∧ leftHalf t.dout = subInvBlock (stepInvBlock^[16] (leftHalf s.din)) ∧
      rightHalf t.dout = rightHalf s.dout ∧ t = { s with dout := t.dout, errcode := 0x00#8, busy := false })

/-- R123: S and Sinv substitute each byte, undo each other, and neither couples bytes. -/
def Obligations.BlockSubstitutionInvertible : Prop :=
  (∀ (b : Block) (i : Fin 16), (subBlock b)[i.val] = pi b[i.val] ∧ (subInvBlock b)[i.val] = piInv b[i.val]) ∧
  (∀ b : Block, subInvBlock (subBlock b) = b ∧ subBlock (subInvBlock b) = b) ∧
  (∀ (b d : Block) (i : Fin 16), b[i.val] = d[i.val] →
    (subBlock b)[i.val] = (subBlock d)[i.val] ∧ (subInvBlock b)[i.val] = (subInvBlock d)[i.val])

/-- R152 (a), (b), (d): the linear transform, its elementary step and the composite LP are undone by their inverses, both
ways, on every Block. -/
def Obligations.LinearTransformInverses : Prop :=
  ∀ b : Block, linearInv (linear b) = b ∧ linear (linearInv b) = b ∧
    stepInvBlock (stepBlock b) = b ∧ stepBlock (stepInvBlock b) = b ∧
    lpInvBlock (lpBlock b) = b ∧ lpBlock (lpInvBlock b) = b

/-- R152 (c): L and Linv are XOR-linear. -/
def Obligations.LinearTransformIsAdditive : Prop :=
  ∀ a b : Block, linear (xorBlock a b) = xorBlock (linear a) (linear b) ∧
    linearInv (xorBlock a b) = xorBlock (linearInv a) (linearInv b)

/-- R140: the 16 values of LC, and the 16-multiplier form of the feedback agrees with the 15-term one. -/
def Obligations.SixteenMultiplierFormAgrees : Prop :=
  lc.toList = [148, 32, 133, 16, 194, 192, 1, 251, 1, 192, 194, 16, 133, 32, 148, 1] ∧
  ∀ s : Block, s[15] ^^^ lsum s = (List.finRange 16).foldl (fun acc i => acc ^^^ mul s[i.val] lc[i.val]) 0x00#8

/-! ### Round constants and key schedule -/

/-- R170, R172: RCON writes L of the unit Block with ARG0 in byte 15 for ARG0 in 1..32, and reports InvalidIndex
otherwise. -/
def Obligations.RconWritesConstantOrInvalidIndex : Prop :=
  encode .rcon = 0x20#8 ∧
  ∀ s : State,
    (1 ≤ s.arg0.toNat ∧ s.arg0.toNat ≤ 32 → ∃ t, exec .rcon s = .next t ∧
      (∀ u : Block, (∀ i : Fin 15, u[i.val] = 0x00#8) → u[15] = s.arg0 → leftHalf t.dout = linear u) ∧
      rightHalf t.dout = rightHalf s.dout ∧ t = { s with dout := t.dout, errcode := 0x00#8, busy := false }) ∧
    (s.arg0 = 0x00#8 ∨ 0x21 ≤ s.arg0.toNat → exec .rcon s = .next { s with errcode := 0x04#8, busy := false })

/-- R171: each C[r] ends in the byte r. -/
def Obligations.RoundConstantsEndInIndex : Prop :=
  ∀ r : Nat, 1 ≤ r → r ≤ 32 → (roundConst r)[15] = BitVec.ofNat 8 r

/-- R181: FSTEP writes one Feistel round of the Pair in DIN for ARG0 in 1..32, and reports InvalidIndex otherwise. -/
def Obligations.FstepRunsOneRoundOrInvalidIndex : Prop :=
  encode .fstep = 0x21#8 ∧
  ∀ s : State,
    (1 ≤ s.arg0.toNat ∧ s.arg0.toNat ≤ 32 → ∃ t, exec .fstep s = .next t ∧
      (∀ i : Fin 16, t.dout[i.val] =
        (lpBlock (xorBlock (leftHalf s.din) (roundConst s.arg0.toNat)))[i.val] ^^^ s.din[16 + i.val]) ∧
      (∀ i : Fin 16, t.dout[16 + i.val] = s.din[i.val]) ∧
      t = { s with dout := t.dout, errcode := 0x00#8, busy := false }) ∧
    (s.arg0 = 0x00#8 ∨ 0x21 ≤ s.arg0.toNat → exec .fstep s = .next { s with errcode := 0x04#8, busy := false })

/-- R180, R186: the key schedule is the trajectory of the simultaneous Feistel update through rounds 1..32 from the key's
two halves, sampled before round 1 and after rounds 8, 16, 24, 32. -/
def Obligations.KeyScheduleSamplesFeistelRounds : Prop :=
  ∀ (k : Key) (left right : Nat → Block),
    (∀ i : Fin 16, (left 0)[i.val] = k[i.val]) → (∀ i : Fin 16, (right 0)[i.val] = k[16 + i.val]) →
    (∀ r, 1 ≤ r → r ≤ 32 →
      left r = xorBlock (lpBlock (xorBlock (left (r - 1)) (roundConst r))) (right (r - 1)) ∧ right r = left (r - 1)) →
    ∀ g : Fin 5, (keySchedule k)[2 * g.val] = left (8 * g.val) ∧ (keySchedule k)[2 * g.val + 1] = right (8 * g.val)

/-- R182: KLOAD derives all ten round keys from DIN32 where LEN = 32, and reports InvalidKeyLength otherwise, keeping RK
and KEYV. -/
def Obligations.KloadDerivesKeysOrInvalidKeyLength : Prop :=
  encode .kload = 0x30#8 ∧
  ∀ s : State,
    (s.len = 0x20#8 → exec .kload s =
      .next { s with rk := keySchedule s.din, keyv := true, errcode := 0x00#8, busy := false }) ∧
    (s.len ≠ 0x20#8 → exec .kload s = .next { s with errcode := 0x01#8, busy := false })

/-- R183: KCLR zeroes the round keys and KEYV; ENC, DEC and RKRD then raise KeyNotLoaded. -/
def Obligations.KclrDiscardsKeys : Prop :=
  encode .kclr = 0x31#8 ∧
  ∀ s : State, ∃ t, exec .kclr s = .next t ∧
    (∀ (j : Fin 10) (i : Fin 16), t.rk[j.val][i.val] = 0x00#8) ∧
    t = { s with rk := t.rk, keyv := false, errcode := 0x00#8, busy := false } ∧
    ∀ i, i = .enc ∨ i = .dec ∨ i = .rkrd → exec i t = .next { t with errcode := 0x03#8, busy := false }

/-- R184, R244: RKRD writes RK[ARG0] for a loaded key and ARG0 in 0..9; KeyNotLoaded goes before InvalidIndex. -/
def Obligations.RkrdReadsRoundKey : Prop :=
  encode .rkrd = 0x32#8 ∧
  ∀ s : State,
    (∀ j : Fin 10, s.keyv = true → s.arg0.toNat = j.val → ∃ t, exec .rkrd s = .next t ∧
      leftHalf t.dout = s.rk[j.val] ∧ rightHalf t.dout = rightHalf s.dout ∧
      t = { s with dout := t.dout, errcode := 0x00#8, busy := false }) ∧
    (s.keyv = false → exec .rkrd s = .next { s with errcode := 0x03#8, busy := false }) ∧
    (s.keyv = true → 0x0A ≤ s.arg0.toNat → exec .rkrd s = .next { s with errcode := 0x04#8, busy := false })

/-! ### Block cipher -/

/-- R210, R212: ENC writes nine rounds of LP(b XOR rk[i]) and a final XOR with rk[9]; with its errors in order. -/
def Obligations.EncRunsNineRoundsAndWhitening : Prop :=
  encode .enc = 0x40#8 ∧
  ∀ s : State,
    (s.keyv = true → s.len = 0x10#8 → ∃ t, exec .enc s = .next t ∧
      (∀ b : Nat → Block, b 0 = leftHalf s.din → (∀ i : Fin 9, b (i.val + 1) = lpBlock (xorBlock (b i.val) s.rk[i.val])) →
        leftHalf t.dout = xorBlock (b 9) s.rk[9]) ∧
      rightHalf t.dout = rightHalf s.dout ∧ t = { s with dout := t.dout, errcode := 0x00#8, busy := false }) ∧
    (s.keyv = false → exec .enc s = .next { s with errcode := 0x03#8, busy := false }) ∧
    (s.keyv = true → s.len ≠ 0x10#8 → exec .enc s = .next { s with errcode := 0x02#8, busy := false })

/-- R211, R213: DEC runs LPinv(b XOR rk[i]) for i = 9 downto 1, with rk[9] XORed once, and a final XOR with rk[0]; with
its errors in order. -/
def Obligations.DecRunsRoundsInReverse : Prop :=
  encode .dec = 0x41#8 ∧
  ∀ s : State,
    (s.keyv = true → s.len = 0x10#8 → ∃ t, exec .dec s = .next t ∧
      (∀ b : Nat → Block, b 9 = leftHalf s.din →
        (∀ i : Fin 9, b i.val = lpInvBlock (xorBlock (b (i.val + 1)) s.rk[i.val + 1])) →
        leftHalf t.dout = xorBlock (b 0) s.rk[0]) ∧
      rightHalf t.dout = rightHalf s.dout ∧ t = { s with dout := t.dout, errcode := 0x00#8, busy := false }) ∧
    (s.keyv = false → exec .dec s = .next { s with errcode := 0x03#8, busy := false }) ∧
    (s.keyv = true → s.len ≠ 0x10#8 → exec .dec s = .next { s with errcode := 0x02#8, busy := false })

/-- R214: encrypt and decrypt under the same round keys are mutual inverses on all Blocks. -/
def Obligations.EncryptDecryptMutuallyInverse : Prop :=
  ∀ (rk : Vector Block 10) (b : Block), decryptBlock rk (encryptBlock rk b) = b ∧ encryptBlock rk (decryptBlock rk b) = b

/-- R214 at the machine: for any 32-byte key and any 16-byte block, KLOAD, then ENC, then DEC of the ciphertext (each with
its operands written in between) leaves the block in DOUT[0..15]. -/
def Obligations.DecAfterEncRestoresBlock : Prop :=
  ∀ s0 s1 s2 s3 s4 s5 : State, s0.len = 0x20#8 → exec .kload s0 = .next s1 →
    s2.rk = s1.rk → s2.keyv = s1.keyv → s2.len = 0x10#8 → exec .enc s2 = .next s3 →
    s4.rk = s3.rk → s4.keyv = s3.keyv → s4.len = 0x10#8 → leftHalf s4.din = leftHalf s3.dout →
    exec .dec s4 = .next s5 → leftHalf s5.dout = leftHalf s2.din ∧ s5.errcode = 0x00#8

/-- R212, R213, R215: what ENC and DEC report and write to DOUT[0..15] depends only on RK, KEYV, LEN and DIN[0..15]. -/
def Obligations.CipherIgnoresOtherRegisters : Prop :=
  ∀ (i : Instr) (s s' t t' : State), i = .enc ∨ i = .dec → s.rk = s'.rk → s.keyv = s'.keyv → s.len = s'.len →
    leftHalf s.din = leftHalf s'.din → s.keyv = true → s.len = 0x10#8 → exec i s = .next t → exec i s' = .next t' →
    leftHalf t.dout = leftHalf t'.dout ∧ t.errcode = t'.errcode

/-! ### Frames -/

/-- R40: a byte command or NOP leaves every window byte but RES (byte commands only), STATUS and ERRCODE, and the
round-key file and KEYV. -/
def Obligations.ByteCommandFrame : Prop :=
  ∀ (i : Instr) (s t : State), i = .nop ∨ i = .gfmul ∨ i = .sbox ∨ i = .sboxi → exec i s = .next t →
    (∀ a : WindowAddr, a ≠ 0x43#7 → a ≠ 0x45#7 → a ≠ 0x46#7 → t.hostRead a = s.hostRead a) ∧
    (i = .nop → t.hostRead 0x43#7 = s.hostRead 0x43#7) ∧ t.rk = s.rk ∧ t.keyv = s.keyv ∧ t.env = s.env

/-- R40: a Block-result command leaves every window byte but DOUT[0..15], STATUS and ERRCODE, and the round-key file and
KEYV. -/
def Obligations.BlockCommandFrame : Prop :=
  ∀ (i : Instr) (s t : State), i ∈ ([.sblk, .sblki, .rstep, .rstepi, .lxfm, .lxfmi, .lp, .lpi, .rcon, .rkrd, .enc, .dec] :
      List Instr) → exec i s = .next t →
    (∀ a : WindowAddr, ¬ (0x20 ≤ a.toNat ∧ a.toNat ≤ 0x2F) → a ≠ 0x45#7 → a ≠ 0x46#7 → t.hostRead a = s.hostRead a) ∧
    t.rk = s.rk ∧ t.keyv = s.keyv ∧ t.env = s.env

/-- R40: FSTEP leaves every window byte but DOUT[0..31], STATUS and ERRCODE, and the round-key file and KEYV. -/
def Obligations.FstepFrame : Prop :=
  ∀ s t : State, exec .fstep s = .next t →
    (∀ a : WindowAddr, ¬ (0x20 ≤ a.toNat ∧ a.toNat ≤ 0x3F) → a ≠ 0x45#7 → a ≠ 0x46#7 → t.hostRead a = s.hostRead a) ∧
    t.rk = s.rk ∧ t.keyv = s.keyv ∧ t.env = s.env

/-- R40: KLOAD and KCLR leave every window byte but STATUS and ERRCODE. -/
def Obligations.KeyCommandFrame : Prop :=
  ∀ (i : Instr) (s t : State), i = .kload ∨ i = .kclr → exec i s = .next t →
    (∀ a : WindowAddr, a ≠ 0x45#7 → a ≠ 0x46#7 → t.hostRead a = s.hostRead a) ∧ t.env = s.env

/-- R22, R24, R25, R26, R28: the engine never writes DIN, LEN, ARG0, ARG1 or CMD. -/
def Obligations.EngineNeverWritesOperands : Prop :=
  ∀ s t : State, complete s = .next t →
    t.din = s.din ∧ t.len = s.len ∧ t.arg0 = s.arg0 ∧ t.arg1 = s.arg1 ∧ t.cmd = s.cmd

/-- R32, R34: RK and KEYV change only by reset or by a successful KLOAD or KCLR. The turns are the model's choice
(assumption log 1). -/
def Obligations.KeysChangeOnlyByKeyCommandsOrReset : Prop :=
  ∀ s t : State, step s = .next t → t.rk ≠ s.rk ∨ t.keyv ≠ s.keyv →
    s.nextTurn = .reset ∨
    (s.nextTurn = .engine ∧ s.busy = true ∧ (decode s.cmd = .command .kload ∨ decode s.cmd = .command .kclr) ∧
      t.errcode = 0x00#8)

/-- R23, R278: DOUT[16..31] changes only by reset or by a successful FSTEP. The turns are the model's choice (assumption
log 1). -/
def Obligations.UpperDoutChangesOnlyByFstepOrReset : Prop :=
  ∀ s t : State, step s = .next t → rightHalf t.dout ≠ rightHalf s.dout →
    s.nextTurn = .reset ∨
    (s.nextTurn = .engine ∧ s.busy = true ∧ decode s.cmd = .command .fstep ∧ t.errcode = 0x00#8)

/-! ### Errors -/

/-- R241, R245: a failed completion changes ERRCODE and BUSY only. -/
def Obligations.FailedCommandWritesOnlyErrcodeAndBusy : Prop :=
  ∀ s t : State, complete s = .next t → t.errcode ≠ 0x00#8 → t = { s with errcode := t.errcode, busy := false }

/-- R242, R244: the one error reported, by its cause and in the order of priority; 0x00 exactly where none holds. -/
def Obligations.ErrorCodeByCauseAndPriority : Prop :=
  ∀ s t : State, complete s = .next t →
    t.errcode =
      if decode s.cmd = .illegal then 0x05#8
      else if s.cmd ∈ ([0x32, 0x40, 0x41] : List Byte) ∧ s.keyv = false then 0x03#8
      else if s.cmd = 0x30#8 ∧ s.len.toNat ≠ 32 then 0x01#8
      else if s.cmd ∈ ([0x40, 0x41] : List Byte) ∧ s.len.toNat ≠ 16 then 0x02#8
      else if s.cmd ∈ ([0x20, 0x21] : List Byte) ∧ ¬ (1 ≤ s.arg0.toNat ∧ s.arg0.toNat ≤ 32) then 0x04#8
      else if s.cmd = 0x32#8 ∧ ¬ s.arg0.toNat ≤ 9 then 0x04#8
      else 0x00#8

/-- R277: LEN stays after KLOAD, so that ENC and DEC then fail with InvalidBlockLength until the host writes LEN = 16; once
it is 16, every ENC and DEC runs and leaves it so for the next. -/
def Obligations.LenPersistsAfterKload : Prop :=
  ∀ (i : Instr) (s t : State), i = .enc ∨ i = .dec → s.len = 0x20#8 → exec .kload s = .next t →
    t.len = 0x20#8 ∧ exec i t = .next { t with errcode := 0x02#8, busy := false } ∧
    (∃ u, exec i (t.hostWrite 0x40#7 0x10#8) = .next u ∧ u.errcode = 0x00#8) ∧
    ∀ u v : State, u.keyv = true → u.len = 0x10#8 → exec i u = .next v →
      v.errcode = 0x00#8 ∧ v.keyv = true ∧ v.len = 0x10#8

/-! ### The window -/

/-- R29, R31: STATUS = BUSY | (ERR << 1) | (KEYV << 2), its other bits 0; writes to it are ignored; it resets to 0x00. -/
def Obligations.StatusBits : Prop :=
  (∀ s : State, (s.hostRead 0x45#7).getLsbD 0 = s.busy ∧
    ((s.hostRead 0x45#7).getLsbD 1 = true ↔ s.errcode ≠ 0x00#8) ∧ (s.hostRead 0x45#7).getLsbD 2 = s.keyv ∧
    (s.hostRead 0x45#7).extractLsb' 3 5 = 0#5) ∧
  (∀ (s : State) (v : Byte), s.hostWrite 0x45#7 v = s) ∧ State.reset.hostRead 0x45#7 = 0x00#8

/-- R55, with R51, R36, R56: what every address of the window reads as. -/
def Obligations.WindowReadMap : Prop :=
  ∀ s : State,
    (∀ i : Fin 32, s.hostRead (BitVec.ofNat 7 i.val) = s.din[i.val]) ∧
    (∀ i : Fin 32, s.hostRead (BitVec.ofNat 7 (0x20 + i.val)) = s.dout[i.val]) ∧
    s.hostRead 0x40#7 = s.len ∧ s.hostRead 0x41#7 = s.arg0 ∧ s.hostRead 0x42#7 = s.arg1 ∧ s.hostRead 0x43#7 = s.res ∧
    s.hostRead 0x44#7 = s.cmd ∧
    s.hostRead 0x45#7 = (BitVec.ofBool s.busy).setWidth 8 ||| (BitVec.ofBool (s.errcode != 0x00#8)).setWidth 8 <<< 1 |||
      (BitVec.ofBool s.keyv).setWidth 8 <<< 2 ∧
    s.hostRead 0x46#7 = s.errcode ∧
    (∀ a : WindowAddr, 0x47 ≤ a.toNat → a.toNat ≤ 0x7D → s.hostRead a = 0x00#8) ∧
    s.hostRead 0x7E#7 = 0x4B#8 ∧ s.hostRead 0x7F#7 = 0x01#8

/-- R53: a write while BUSY = 1, to a read-only address or to a reserved one has no effect. -/
def Obligations.IgnoredWritesHaveNoEffect : Prop :=
  ∀ (s : State) (a : WindowAddr) (v : Byte),
    s.busy = true ∨ (0x20 ≤ a.toNat ∧ a.toNat ≤ 0x3F) ∨ a = 0x43#7 ∨ 0x45 ≤ a.toNat → s.hostWrite a v = s

/-- R54: a write of any byte to CMD while BUSY = 0 sets CMD and BUSY and does nothing else; a code that is no command fails
at its completion step with IllegalCommand. -/
def Obligations.CmdWriteAcceptsAnyByte : Prop :=
  ∀ (s : State) (v : Byte), s.busy = false →
    s.hostWrite 0x44#7 v = { s with cmd := v, busy := true } ∧
    (decode v = .illegal → complete (s.hostWrite 0x44#7 v) = .next { s with cmd := v, errcode := 0x05#8, busy := false })

/-- R52, R61: an idle host's write to DIN, LEN, ARG0 or ARG1 is read back, changes no other window byte and nothing
outside the window, and is idempotent. -/
def Obligations.OperandWriteReadsBack : Prop :=
  ∀ (s : State) (a : WindowAddr) (v : Byte), s.busy = false → a.toNat ≤ 0x1F ∨ (0x40 ≤ a.toNat ∧ a.toNat ≤ 0x42) →
    (s.hostWrite a v).hostRead a = v ∧ (∀ b : WindowAddr, b ≠ a → (s.hostWrite a v).hostRead b = s.hostRead b) ∧
    (s.hostWrite a v).rk = s.rk ∧ (s.hostWrite a v).busy = false ∧ (s.hostWrite a v).keyv = s.keyv ∧
    (s.hostWrite a v).env = s.env ∧ (s.hostWrite a v).hostWrite a v = s.hostWrite a v

/-- R61: host writes to different addresses other than CMD give the same state in either order, so the order in which an
operand is written does not matter. -/
def Obligations.OperandWritesCommute : Prop :=
  ∀ (s : State) (a b : WindowAddr) (v w : Byte), a ≠ b → a ≠ 0x44#7 → b ≠ 0x44#7 →
    (s.hostWrite a v).hostWrite b w = (s.hostWrite b w).hostWrite a v

/-! ### The host's steps -/

/-- R88, R52, R55: a step at the host's turn performs the WR or RD at its position, or takes BNZ by the value of the
preceding RD; reads and branches leave KZCORE as it was. The turns are the model's choice (assumption log 1). -/
def Obligations.HostStepPerformsOperation : Prop :=
  ∀ (s : State) (o : HostOp), s.env.turns.head? = some .host → s.env.prog[s.env.pos]? = some o →
    (∀ a v, o = .wr a v → ∃ t, step s = .next t ∧ (s.hostWrite a v).sameCore t ∧ t.env.pos = s.env.pos + 1 ∧
      t.env.reads = s.env.reads) ∧
    (∀ a, o = .rd a → ∃ t, step s = .next t ∧ s.sameCore t ∧ t.env.pos = s.env.pos + 1 ∧
      t.env.reads = s.hostRead a :: s.env.reads) ∧
    (∀ label m v rest, o = .bnz label m → s.env.reads = v :: rest → ∃ t, step s = .next t ∧ s.sameCore t ∧
      t.env.reads = s.env.reads ∧ (v &&& m ≠ 0x00#8 → t.env.pos = label) ∧ (v &&& m = 0x00#8 → t.env.pos = s.env.pos + 1))

/-- R88 with assumption log 4 (the model's choice): a BNZ with no RD before it tests a free value, drawn once, against its
mask; it goes to its label where a masked bit is set and to the next position where none is, and leaves KZCORE and the
values read as they were. The turns are the model's choice too (assumption log 1). -/
def Obligations.BranchWithoutReadIsFree : Prop :=
  ∀ (s : State) (label : Nat) (m : Byte), s.env.turns.head? = some .host →
    s.env.prog[s.env.pos]? = some (.bnz label m) → s.env.reads = [] →
    ∃ t, step s = .next t ∧ s.sameCore t ∧ t.env.reads = [] ∧ t.env.draws = s.env.draws + 1 ∧
      (Config.freeBranchValue s.env.draws &&& m ≠ 0x00#8 → t.env.pos = label) ∧
      (Config.freeBranchValue s.env.draws &&& m = 0x00#8 → t.env.pos = s.env.pos + 1)

/-- R90's table, with R50: the expansions of the pseudo-instructions; a WRBLK or RDBLK that stays inside the window goes
through its bytes in increasing order. The lengths are those of the total expansion, transfers past 0x7F included, which
is the model's choice (assumption log 13). -/
def Obligations.PseudoInstructionExpansions : Prop :=
  ∀ p : Nat,
    (∀ m, expandPseudo p (.cmd m) = [.wr 0x44#7 (encode m)]) ∧
    expandPseudo p .wait = [.rd 0x45#7, .bnz p 0x01#8] ∧
    (∀ (a : WindowAddr) (h : List Byte) (i : Nat), i < h.length → Pseudo.wf (.wrblk a h) = true →
      ∃ b : WindowAddr, b.toNat = a.toNat + i ∧ (expandPseudo p (.wrblk a h))[i]? = (h[i]?).map (HostOp.wr b ·)) ∧
    (∀ (a : WindowAddr) (h : List Byte), (expandPseudo p (.wrblk a h)).length = h.length) ∧
    (∀ (a : WindowAddr) (n i : Nat), i < n → Pseudo.wf (.rdblk a n) = true →
      ∃ b : WindowAddr, b.toNat = a.toNat + i ∧ (expandPseudo p (.rdblk a n))[i]? = some (.rd b)) ∧
    (∀ (a : WindowAddr) (n : Nat), (expandPseudo p (.rdblk a n)).length = n) ∧
    (∀ n, expandPseudo p (.setlen n) = [.wr 0x40#7 n]) ∧
    (∀ v, expandPseudo p (.seta0 v) = [.wr 0x41#7 v]) ∧ (∀ v, expandPseudo p (.seta1 v) = [.wr 0x42#7 v]) ∧
    (∀ m, expandPseudo p (.run m) = expandPseudo p (.cmd m) ++ expandPseudo (p + 1) .wait)

/-! ### Runs, over every interleaving -/

/-- The register file's invariant holds at reset. -/
def Obligations.InvariantHoldsAtReset : Prop := State.reset.Inv

/-- R32, R33, R34: every step from every state keeps ERRCODE legal, RK a key schedule where KEYV is set, and RK zero where
it is not, whichever agent's turn it is (the turns are the model's choice, assumption log 1). -/
def Obligations.EveryStepKeepsInvariant : Prop := ∀ s t : State, s.Inv → step s = .next t → t.Inv

/-- R30, R63: BUSY falls only by the completion step or by reset. The turns are the model's choice (assumption log 1). -/
def Obligations.BusyFallsOnlyByCompletionOrReset : Prop :=
  ∀ s t : State, s.busy = true → step s = .next t → t.busy = false → s.nextTurn = .engine ∨ s.nextTurn = .reset

/-- R65, R276: however many host steps come before the completion step, nothing of KZCORE moves: operands stay as they were
at acceptance and reads return the values from before the command. The turns are the model's choice (assumption log 1). -/
def Obligations.NothingMovesBeforeCompletion : Prop :=
  ∀ (n : Nat) (s : State) (rest : List Turn), s.busy = true → s.env.turns = List.replicate n .host ++ rest →
    ∃ t, RunsTo n s t ∧ s.sameCore t ∧ t.env.turns = rest

/-- R246, R63: an accepted command completes after finitely many steps unless reset intervenes, and what it leaves is its
completion step on the state it was accepted in. The turns, and the completion once none is left (its form of weak
fairness), are the model's choice (assumption log 1). -/
def Obligations.AcceptedCommandCompletes : Prop :=
  ∀ s : State, s.busy = true → Turn.reset ∉ s.env.turns →
    ∃ n t u, n ≤ s.env.turns.length + 1 ∧ RunsTo n s t ∧ t.busy = false ∧ complete s = .next u ∧ u.sameCore t

/-- R62, R90: RUN m (accept, then poll until BUSY = 0) ends with KZCORE exactly as the command's completion leaves it, for
every placement of the completion step that the turns lay out. The turns, and what follows them, are the model's choice
(assumption log 1). -/
def Obligations.RunEndsAlikeInEveryInterleaving : Prop :=
  ∀ (s : State) (m : Instr), s.busy = false → Turn.reset ∉ s.env.turns →
    s.env.prog[s.env.pos]? = some (.wr 0x44#7 (encode m)) → s.env.prog[s.env.pos + 1]? = some (.rd 0x45#7) →
    s.env.prog[s.env.pos + 2]? = some (.bnz (s.env.pos + 1) 0x01#8) →
    ∃ n t u, RunsTo n s t ∧ t.env.pos = s.env.pos + 3 ∧
      exec m { s with cmd := encode m, busy := true } = .next u ∧ u.sameCore t
end

