-- ==== Sys2Proof/Laws/Blocks.lean ====
section
/-! SUPPORT. One lemma per Block function: the bytes of its result. Later proofs cite these and do not unfold the
functions. -/

namespace Sys2Proof.Machine

@[simp] theorem leftHalf_get (k : Vector Byte 32) (i : Nat) (h : i < 16) : (leftHalf k)[i] = k[i] := by
  simp [leftHalf]

@[simp] theorem rightHalf_get (k : Vector Byte 32) (i : Nat) (h : i < 16) : (rightHalf k)[i] = k[16 + i] := by
  simp [rightHalf]

@[simp] theorem withLowBlock_get (d : Vector Byte 32) (b : Block) (i : Nat) (h : i < 32) :
    (withLowBlock d b)[i] = if h' : i < 16 then b[i] else d[i] := by
  simp [withLowBlock]

@[simp] theorem pairBytes_get (p : Block × Block) (i : Nat) (h : i < 32) :
    (pairBytes p)[i] = if h' : i < 16 then p.1[i] else p.2[i - 16] := by
  simp [pairBytes]

/-- The Block a command wrote to DOUT[0..15] is read back. -/
@[simp] theorem leftHalf_withLowBlock (d : Vector Byte 32) (b : Block) : leftHalf (withLowBlock d b) = b := by
  ext i h : 1
  simp [h]

@[simp] theorem rightHalf_withLowBlock (d : Vector Byte 32) (b : Block) : rightHalf (withLowBlock d b) = rightHalf d := by
  ext i h : 1
  simp

@[simp] theorem leftHalf_pairBytes (p : Block × Block) : leftHalf (pairBytes p) = p.1 := by
  ext i h : 1
  simp [h]

@[simp] theorem rightHalf_pairBytes (p : Block × Block) : rightHalf (pairBytes p) = p.2 := by
  ext i h : 1
  simp

@[simp] theorem xorBlock_get (a b : Block) (i : Nat) (h : i < 16) : (xorBlock a b)[i] = a[i] ^^^ b[i] := by
  simp [xorBlock]

@[simp] theorem subBlock_get (b : Block) (i : Nat) (h : i < 16) : (subBlock b)[i] = pi b[i] := by
  simp [subBlock]

@[simp] theorem subInvBlock_get (b : Block) (i : Nat) (h : i < 16) : (subInvBlock b)[i] = piInv b[i] := by
  simp [subInvBlock]

/-- R142: byte 0 of an elementary step is the feedback. -/
@[simp] theorem stepBlock_zero (s : Block) : (stepBlock s)[0] = s[15] ^^^ lsum s := by
  simp [stepBlock]

/-- R142: the other bytes of an elementary step move right by one. -/
@[simp] theorem stepBlock_succ (s : Block) (i : Nat) (h : i + 1 < 16) : (stepBlock s)[i + 1] = s[i] := by
  simp [stepBlock]

/-- R143: bytes 0..14 of an inverse step move left by one. -/
theorem stepInvBlock_low (s : Block) (i : Nat) (h : i < 15) : (stepInvBlock s)[i] = s[i + 1] := by
  simp [stepInvBlock, h]

/-- R143: byte 15 of an inverse step is the recomputed byte. -/
theorem stepInvBlock_last (s : Block) : (stepInvBlock s)[15] = s[0] ^^^ lsum (shiftLeftBlock s) := by
  simp [stepInvBlock]

theorem shiftLeftBlock_low (s : Block) (i : Nat) (h : i < 15) : (shiftLeftBlock s)[i] = s[i + 1] := by
  simp [shiftLeftBlock, h]

/-- R141: the multiply-sum reads only bytes 0..14. -/
theorem lsum_congr (s t : Block) (h : ∀ i (hi : i < 15), s[i] = t[i]) : lsum s = lsum t := by
  unfold lsum
  congr 1
  funext acc i
  rw [h i.val i.isLt]

/-- The multiply-sum of the bytes an elementary step moved left again is that of the original Block. -/
theorem lsum_shiftLeft_step (s : Block) : lsum (shiftLeftBlock (stepBlock s)) = lsum s :=
  lsum_congr _ _ fun i hi => by simp [shiftLeftBlock_low _ i hi]

theorem xorBlock_cancel (a b : Block) : xorBlock (xorBlock a b) b = a := by
  ext i h : 1
  simp

@[simp] theorem unitBlock_get (r i : Nat) (h : i < 16) :
    (unitBlock r)[i] = if i = 15 then BitVec.ofNat 8 r else 0x00#8 := by
  simp [unitBlock]

end Sys2Proof.Machine
end

