-- ==== Sys2Proof/Laws/State.lean ====
section
/-! SUPPORT. One lemma per field per update of State, so that no proof unfolds a record update. -/

namespace Sys2Proof.Machine

/-! ### setRes -/

@[simp] theorem setRes_din (s : State) (v : Byte) : (s.setRes v).din = s.din := rfl
@[simp] theorem setRes_dout (s : State) (v : Byte) : (s.setRes v).dout = s.dout := rfl
@[simp] theorem setRes_len (s : State) (v : Byte) : (s.setRes v).len = s.len := rfl
@[simp] theorem setRes_arg0 (s : State) (v : Byte) : (s.setRes v).arg0 = s.arg0 := rfl
@[simp] theorem setRes_arg1 (s : State) (v : Byte) : (s.setRes v).arg1 = s.arg1 := rfl
@[simp] theorem setRes_res (s : State) (v : Byte) : (s.setRes v).res = v := rfl
@[simp] theorem setRes_cmd (s : State) (v : Byte) : (s.setRes v).cmd = s.cmd := rfl
@[simp] theorem setRes_busy (s : State) (v : Byte) : (s.setRes v).busy = s.busy := rfl
@[simp] theorem setRes_keyv (s : State) (v : Byte) : (s.setRes v).keyv = s.keyv := rfl
@[simp] theorem setRes_errcode (s : State) (v : Byte) : (s.setRes v).errcode = s.errcode := rfl
@[simp] theorem setRes_rk (s : State) (v : Byte) : (s.setRes v).rk = s.rk := rfl
@[simp] theorem setRes_env (s : State) (v : Byte) : (s.setRes v).env = s.env := rfl

/-! ### setDout16 -/

@[simp] theorem setDout16_din (s : State) (b : Block) : (s.setDout16 b).din = s.din := by simp only [State.setDout16]
@[simp] theorem setDout16_len (s : State) (b : Block) : (s.setDout16 b).len = s.len := by simp only [State.setDout16]
@[simp] theorem setDout16_arg0 (s : State) (b : Block) : (s.setDout16 b).arg0 = s.arg0 := by simp only [State.setDout16]
@[simp] theorem setDout16_arg1 (s : State) (b : Block) : (s.setDout16 b).arg1 = s.arg1 := by simp only [State.setDout16]
@[simp] theorem setDout16_res (s : State) (b : Block) : (s.setDout16 b).res = s.res := by simp only [State.setDout16]
@[simp] theorem setDout16_cmd (s : State) (b : Block) : (s.setDout16 b).cmd = s.cmd := by simp only [State.setDout16]
@[simp] theorem setDout16_busy (s : State) (b : Block) : (s.setDout16 b).busy = s.busy := by simp only [State.setDout16]
@[simp] theorem setDout16_keyv (s : State) (b : Block) : (s.setDout16 b).keyv = s.keyv := by simp only [State.setDout16]
@[simp] theorem setDout16_errcode (s : State) (b : Block) : (s.setDout16 b).errcode = s.errcode := by simp only [State.setDout16]
@[simp] theorem setDout16_rk (s : State) (b : Block) : (s.setDout16 b).rk = s.rk := by simp only [State.setDout16]
@[simp] theorem setDout16_env (s : State) (b : Block) : (s.setDout16 b).env = s.env := by simp only [State.setDout16]

@[simp] theorem setDout16_dout (s : State) (b : Block) : (s.setDout16 b).dout = withLowBlock s.dout b := by simp only [State.setDout16]

/-! ### setDoutPair -/

@[simp] theorem setDoutPair_din (s : State) (p : Block × Block) : (s.setDoutPair p).din = s.din := by simp only [State.setDoutPair]
@[simp] theorem setDoutPair_len (s : State) (p : Block × Block) : (s.setDoutPair p).len = s.len := by simp only [State.setDoutPair]
@[simp] theorem setDoutPair_arg0 (s : State) (p : Block × Block) : (s.setDoutPair p).arg0 = s.arg0 := by simp only [State.setDoutPair]
@[simp] theorem setDoutPair_arg1 (s : State) (p : Block × Block) : (s.setDoutPair p).arg1 = s.arg1 := by simp only [State.setDoutPair]
@[simp] theorem setDoutPair_res (s : State) (p : Block × Block) : (s.setDoutPair p).res = s.res := by simp only [State.setDoutPair]
@[simp] theorem setDoutPair_cmd (s : State) (p : Block × Block) : (s.setDoutPair p).cmd = s.cmd := by simp only [State.setDoutPair]
@[simp] theorem setDoutPair_busy (s : State) (p : Block × Block) : (s.setDoutPair p).busy = s.busy := by simp only [State.setDoutPair]
@[simp] theorem setDoutPair_keyv (s : State) (p : Block × Block) : (s.setDoutPair p).keyv = s.keyv := by simp only [State.setDoutPair]
@[simp] theorem setDoutPair_errcode (s : State) (p : Block × Block) : (s.setDoutPair p).errcode = s.errcode := by simp only [State.setDoutPair]
@[simp] theorem setDoutPair_rk (s : State) (p : Block × Block) : (s.setDoutPair p).rk = s.rk := by simp only [State.setDoutPair]
@[simp] theorem setDoutPair_env (s : State) (p : Block × Block) : (s.setDoutPair p).env = s.env := by simp only [State.setDoutPair]

@[simp] theorem setDoutPair_dout (s : State) (p : Block × Block) : (s.setDoutPair p).dout = pairBytes p := by simp only [State.setDoutPair]

/-! ### setKeys -/

@[simp] theorem setKeys_din (s : State) (rk : Vector Block 10) (k : Bool) : (s.setKeys rk k).din = s.din := by simp only [State.setKeys]
@[simp] theorem setKeys_dout (s : State) (rk : Vector Block 10) (k : Bool) : (s.setKeys rk k).dout = s.dout := by simp only [State.setKeys]
@[simp] theorem setKeys_len (s : State) (rk : Vector Block 10) (k : Bool) : (s.setKeys rk k).len = s.len := by simp only [State.setKeys]
@[simp] theorem setKeys_arg0 (s : State) (rk : Vector Block 10) (k : Bool) : (s.setKeys rk k).arg0 = s.arg0 := by simp only [State.setKeys]
@[simp] theorem setKeys_arg1 (s : State) (rk : Vector Block 10) (k : Bool) : (s.setKeys rk k).arg1 = s.arg1 := by simp only [State.setKeys]
@[simp] theorem setKeys_res (s : State) (rk : Vector Block 10) (k : Bool) : (s.setKeys rk k).res = s.res := by simp only [State.setKeys]
@[simp] theorem setKeys_cmd (s : State) (rk : Vector Block 10) (k : Bool) : (s.setKeys rk k).cmd = s.cmd := by simp only [State.setKeys]
@[simp] theorem setKeys_busy (s : State) (rk : Vector Block 10) (k : Bool) : (s.setKeys rk k).busy = s.busy := by simp only [State.setKeys]
@[simp] theorem setKeys_keyv (s : State) (rk : Vector Block 10) (k : Bool) : (s.setKeys rk k).keyv = k := by simp only [State.setKeys]
@[simp] theorem setKeys_errcode (s : State) (rk : Vector Block 10) (k : Bool) : (s.setKeys rk k).errcode = s.errcode := by simp only [State.setKeys]
@[simp] theorem setKeys_rk (s : State) (rk : Vector Block 10) (k : Bool) : (s.setKeys rk k).rk = rk := by simp only [State.setKeys]
@[simp] theorem setKeys_env (s : State) (rk : Vector Block 10) (k : Bool) : (s.setKeys rk k).env = s.env := by simp only [State.setKeys]

/-! ### succeed -/

@[simp] theorem succeed_din (s : State) : s.succeed.din = s.din := rfl
@[simp] theorem succeed_dout (s : State) : s.succeed.dout = s.dout := rfl
@[simp] theorem succeed_len (s : State) : s.succeed.len = s.len := rfl
@[simp] theorem succeed_arg0 (s : State) : s.succeed.arg0 = s.arg0 := rfl
@[simp] theorem succeed_arg1 (s : State) : s.succeed.arg1 = s.arg1 := rfl
@[simp] theorem succeed_res (s : State) : s.succeed.res = s.res := rfl
@[simp] theorem succeed_cmd (s : State) : s.succeed.cmd = s.cmd := rfl
@[simp] theorem succeed_busy (s : State) : s.succeed.busy = false := rfl
@[simp] theorem succeed_keyv (s : State) : s.succeed.keyv = s.keyv := rfl
@[simp] theorem succeed_errcode (s : State) : s.succeed.errcode = 0x00#8 := rfl
@[simp] theorem succeed_rk (s : State) : s.succeed.rk = s.rk := rfl
@[simp] theorem succeed_env (s : State) : s.succeed.env = s.env := rfl

/-! ### raise -/

@[simp] theorem raise_din (s : State) (e : ErrorKind) : (s.raise e).din = s.din := rfl
@[simp] theorem raise_dout (s : State) (e : ErrorKind) : (s.raise e).dout = s.dout := rfl
@[simp] theorem raise_len (s : State) (e : ErrorKind) : (s.raise e).len = s.len := rfl
@[simp] theorem raise_arg0 (s : State) (e : ErrorKind) : (s.raise e).arg0 = s.arg0 := rfl
@[simp] theorem raise_arg1 (s : State) (e : ErrorKind) : (s.raise e).arg1 = s.arg1 := rfl
@[simp] theorem raise_res (s : State) (e : ErrorKind) : (s.raise e).res = s.res := rfl
@[simp] theorem raise_cmd (s : State) (e : ErrorKind) : (s.raise e).cmd = s.cmd := rfl
@[simp] theorem raise_busy (s : State) (e : ErrorKind) : (s.raise e).busy = false := rfl
@[simp] theorem raise_keyv (s : State) (e : ErrorKind) : (s.raise e).keyv = s.keyv := rfl
@[simp] theorem raise_errcode (s : State) (e : ErrorKind) : (s.raise e).errcode = errorCode e := rfl
@[simp] theorem raise_rk (s : State) (e : ErrorKind) : (s.raise e).rk = s.rk := rfl
@[simp] theorem raise_env (s : State) (e : ErrorKind) : (s.raise e).env = s.env := rfl

/-! ### coreReset -/

@[simp] theorem coreReset_din (s : State) : s.coreReset.din = State.reset.din := by simp only [State.coreReset]
@[simp] theorem coreReset_dout (s : State) : s.coreReset.dout = State.reset.dout := by simp only [State.coreReset]
@[simp] theorem coreReset_len (s : State) : s.coreReset.len = State.reset.len := by simp only [State.coreReset]
@[simp] theorem coreReset_arg0 (s : State) : s.coreReset.arg0 = State.reset.arg0 := by simp only [State.coreReset]
@[simp] theorem coreReset_arg1 (s : State) : s.coreReset.arg1 = State.reset.arg1 := by simp only [State.coreReset]
@[simp] theorem coreReset_res (s : State) : s.coreReset.res = State.reset.res := by simp only [State.coreReset]
@[simp] theorem coreReset_cmd (s : State) : s.coreReset.cmd = State.reset.cmd := by simp only [State.coreReset]
@[simp] theorem coreReset_busy (s : State) : s.coreReset.busy = State.reset.busy := by simp only [State.coreReset]
@[simp] theorem coreReset_keyv (s : State) : s.coreReset.keyv = State.reset.keyv := by simp only [State.coreReset]
@[simp] theorem coreReset_errcode (s : State) : s.coreReset.errcode = State.reset.errcode := by simp only [State.coreReset]
@[simp] theorem coreReset_rk (s : State) : s.coreReset.rk = State.reset.rk := by simp only [State.coreReset]
@[simp] theorem coreReset_env (s : State) : s.coreReset.env = s.env := by simp only [State.coreReset]

/-! ### popTurn -/

@[simp] theorem popTurn_din (s : State) : s.popTurn.din = s.din := rfl
@[simp] theorem popTurn_dout (s : State) : s.popTurn.dout = s.dout := rfl
@[simp] theorem popTurn_len (s : State) : s.popTurn.len = s.len := rfl
@[simp] theorem popTurn_arg0 (s : State) : s.popTurn.arg0 = s.arg0 := rfl
@[simp] theorem popTurn_arg1 (s : State) : s.popTurn.arg1 = s.arg1 := rfl
@[simp] theorem popTurn_res (s : State) : s.popTurn.res = s.res := rfl
@[simp] theorem popTurn_cmd (s : State) : s.popTurn.cmd = s.cmd := rfl
@[simp] theorem popTurn_busy (s : State) : s.popTurn.busy = s.busy := rfl
@[simp] theorem popTurn_keyv (s : State) : s.popTurn.keyv = s.keyv := rfl
@[simp] theorem popTurn_errcode (s : State) : s.popTurn.errcode = s.errcode := rfl
@[simp] theorem popTurn_rk (s : State) : s.popTurn.rk = s.rk := rfl

/-! ### hostAdvance -/

@[simp] theorem hostAdvance_din (s : State) : s.hostAdvance.din = s.din := rfl
@[simp] theorem hostAdvance_dout (s : State) : s.hostAdvance.dout = s.dout := rfl
@[simp] theorem hostAdvance_len (s : State) : s.hostAdvance.len = s.len := rfl
@[simp] theorem hostAdvance_arg0 (s : State) : s.hostAdvance.arg0 = s.arg0 := rfl
@[simp] theorem hostAdvance_arg1 (s : State) : s.hostAdvance.arg1 = s.arg1 := rfl
@[simp] theorem hostAdvance_res (s : State) : s.hostAdvance.res = s.res := rfl
@[simp] theorem hostAdvance_cmd (s : State) : s.hostAdvance.cmd = s.cmd := rfl
@[simp] theorem hostAdvance_busy (s : State) : s.hostAdvance.busy = s.busy := rfl
@[simp] theorem hostAdvance_keyv (s : State) : s.hostAdvance.keyv = s.keyv := rfl
@[simp] theorem hostAdvance_errcode (s : State) : s.hostAdvance.errcode = s.errcode := rfl
@[simp] theorem hostAdvance_rk (s : State) : s.hostAdvance.rk = s.rk := rfl

/-! ### hostGoto -/

@[simp] theorem hostGoto_din (s : State) (p : Nat) : (s.hostGoto p).din = s.din := rfl
@[simp] theorem hostGoto_dout (s : State) (p : Nat) : (s.hostGoto p).dout = s.dout := rfl
@[simp] theorem hostGoto_len (s : State) (p : Nat) : (s.hostGoto p).len = s.len := rfl
@[simp] theorem hostGoto_arg0 (s : State) (p : Nat) : (s.hostGoto p).arg0 = s.arg0 := rfl
@[simp] theorem hostGoto_arg1 (s : State) (p : Nat) : (s.hostGoto p).arg1 = s.arg1 := rfl
@[simp] theorem hostGoto_res (s : State) (p : Nat) : (s.hostGoto p).res = s.res := rfl
@[simp] theorem hostGoto_cmd (s : State) (p : Nat) : (s.hostGoto p).cmd = s.cmd := rfl
@[simp] theorem hostGoto_busy (s : State) (p : Nat) : (s.hostGoto p).busy = s.busy := rfl
@[simp] theorem hostGoto_keyv (s : State) (p : Nat) : (s.hostGoto p).keyv = s.keyv := rfl
@[simp] theorem hostGoto_errcode (s : State) (p : Nat) : (s.hostGoto p).errcode = s.errcode := rfl
@[simp] theorem hostGoto_rk (s : State) (p : Nat) : (s.hostGoto p).rk = s.rk := rfl

/-! ### hostReceive -/

@[simp] theorem hostReceive_din (s : State) (v : Byte) : (s.hostReceive v).din = s.din := rfl
@[simp] theorem hostReceive_dout (s : State) (v : Byte) : (s.hostReceive v).dout = s.dout := rfl
@[simp] theorem hostReceive_len (s : State) (v : Byte) : (s.hostReceive v).len = s.len := rfl
@[simp] theorem hostReceive_arg0 (s : State) (v : Byte) : (s.hostReceive v).arg0 = s.arg0 := rfl
@[simp] theorem hostReceive_arg1 (s : State) (v : Byte) : (s.hostReceive v).arg1 = s.arg1 := rfl
@[simp] theorem hostReceive_res (s : State) (v : Byte) : (s.hostReceive v).res = s.res := rfl
@[simp] theorem hostReceive_cmd (s : State) (v : Byte) : (s.hostReceive v).cmd = s.cmd := rfl
@[simp] theorem hostReceive_busy (s : State) (v : Byte) : (s.hostReceive v).busy = s.busy := rfl
@[simp] theorem hostReceive_keyv (s : State) (v : Byte) : (s.hostReceive v).keyv = s.keyv := rfl
@[simp] theorem hostReceive_errcode (s : State) (v : Byte) : (s.hostReceive v).errcode = s.errcode := rfl
@[simp] theorem hostReceive_rk (s : State) (v : Byte) : (s.hostReceive v).rk = s.rk := rfl

/-! ### The agents' fields -/

@[simp] theorem popTurn_turns (s : State) : s.popTurn.env.turns = s.env.turns.tail := rfl
@[simp] theorem popTurn_prog (s : State) : s.popTurn.env.prog = s.env.prog := rfl
@[simp] theorem popTurn_pos (s : State) : s.popTurn.env.pos = s.env.pos := rfl
@[simp] theorem popTurn_reads (s : State) : s.popTurn.env.reads = s.env.reads := rfl
@[simp] theorem popTurn_draws (s : State) : s.popTurn.env.draws = s.env.draws := rfl
@[simp] theorem hostAdvance_turns (s : State) : s.hostAdvance.env.turns = s.env.turns := rfl
@[simp] theorem hostAdvance_prog (s : State) : s.hostAdvance.env.prog = s.env.prog := rfl
@[simp] theorem hostAdvance_pos (s : State) : s.hostAdvance.env.pos = s.env.pos + 1 := rfl
@[simp] theorem hostAdvance_reads (s : State) : s.hostAdvance.env.reads = s.env.reads := rfl
@[simp] theorem hostAdvance_draws (s : State) : s.hostAdvance.env.draws = s.env.draws := rfl
@[simp] theorem hostGoto_turns (s : State) (p : Nat) : (s.hostGoto p).env.turns = s.env.turns := rfl
@[simp] theorem hostGoto_prog (s : State) (p : Nat) : (s.hostGoto p).env.prog = s.env.prog := rfl
@[simp] theorem hostGoto_pos (s : State) (p : Nat) : (s.hostGoto p).env.pos = p := rfl
@[simp] theorem hostGoto_reads (s : State) (p : Nat) : (s.hostGoto p).env.reads = s.env.reads := rfl
@[simp] theorem hostGoto_draws (s : State) (p : Nat) : (s.hostGoto p).env.draws = s.env.draws := rfl
@[simp] theorem hostReceive_turns (s : State) (v : Byte) : (s.hostReceive v).env.turns = s.env.turns := rfl
@[simp] theorem hostReceive_prog (s : State) (v : Byte) : (s.hostReceive v).env.prog = s.env.prog := rfl
@[simp] theorem hostReceive_pos (s : State) (v : Byte) : (s.hostReceive v).env.pos = s.env.pos := rfl
@[simp] theorem hostReceive_reads (s : State) (v : Byte) : (s.hostReceive v).env.reads = v :: s.env.reads := rfl
@[simp] theorem hostReceive_draws (s : State) (v : Byte) : (s.hostReceive v).env.draws = s.env.draws := rfl

/-! ### Whose turn is next -/

theorem nextTurn_head {s : State} {t : Turn} (h : s.env.turns.head? = some t) : s.nextTurn = t := by
  unfold State.nextTurn; cases h' : s.env.turns <;> simp_all

/-! ### The value a branch tests: the preceding read's, or a free one -/

theorem branchValue_read {s : State} {v : Byte} {rest : List Byte} (h : s.env.reads = v :: rest) : s.branchValue = v := by
  simp only [State.branchValue, h]
theorem branchValue_free {s : State} (h : s.env.reads = []) :
    s.branchValue = Config.freeBranchValue s.env.draws := by
  simp only [State.branchValue, h]
theorem drawBranchValue_read {s : State} {v : Byte} {rest : List Byte} (h : s.env.reads = v :: rest) :
    s.drawBranchValue = s := by
  simp only [State.drawBranchValue, h]
theorem drawBranchValue_free {s : State} (h : s.env.reads = []) :
    s.drawBranchValue = { s with env := { s.env with draws := s.env.draws + 1 } } := by
  simp only [State.drawBranchValue, h]

/-! ### drawBranchValue: only the counter of draws may move -/

@[simp] theorem drawBranchValue_din (s : State) : s.drawBranchValue.din = s.din := by
  unfold State.drawBranchValue; split <;> rfl
@[simp] theorem drawBranchValue_dout (s : State) : s.drawBranchValue.dout = s.dout := by
  unfold State.drawBranchValue; split <;> rfl
@[simp] theorem drawBranchValue_len (s : State) : s.drawBranchValue.len = s.len := by
  unfold State.drawBranchValue; split <;> rfl
@[simp] theorem drawBranchValue_arg0 (s : State) : s.drawBranchValue.arg0 = s.arg0 := by
  unfold State.drawBranchValue; split <;> rfl
@[simp] theorem drawBranchValue_arg1 (s : State) : s.drawBranchValue.arg1 = s.arg1 := by
  unfold State.drawBranchValue; split <;> rfl
@[simp] theorem drawBranchValue_res (s : State) : s.drawBranchValue.res = s.res := by
  unfold State.drawBranchValue; split <;> rfl
@[simp] theorem drawBranchValue_cmd (s : State) : s.drawBranchValue.cmd = s.cmd := by
  unfold State.drawBranchValue; split <;> rfl
@[simp] theorem drawBranchValue_busy (s : State) : s.drawBranchValue.busy = s.busy := by
  unfold State.drawBranchValue; split <;> rfl
@[simp] theorem drawBranchValue_keyv (s : State) : s.drawBranchValue.keyv = s.keyv := by
  unfold State.drawBranchValue; split <;> rfl
@[simp] theorem drawBranchValue_errcode (s : State) : s.drawBranchValue.errcode = s.errcode := by
  unfold State.drawBranchValue; split <;> rfl
@[simp] theorem drawBranchValue_rk (s : State) : s.drawBranchValue.rk = s.rk := by
  unfold State.drawBranchValue; split <;> rfl
@[simp] theorem drawBranchValue_prog (s : State) : s.drawBranchValue.env.prog = s.env.prog := by
  unfold State.drawBranchValue; split <;> rfl
@[simp] theorem drawBranchValue_pos (s : State) : s.drawBranchValue.env.pos = s.env.pos := by
  unfold State.drawBranchValue; split <;> rfl
@[simp] theorem drawBranchValue_reads (s : State) : s.drawBranchValue.env.reads = s.env.reads := by
  unfold State.drawBranchValue; split <;> rfl
@[simp] theorem drawBranchValue_turns (s : State) : s.drawBranchValue.env.turns = s.env.turns := by
  unfold State.drawBranchValue; split <;> rfl

end Sys2Proof.Machine
end

