-- ==== Sys2Proof/Laws/Machine.lean ====
section
/-! SUPPORT. What a completion step and a step can do, once (60_exceptions.md R240, R241; 20_memory.md R62). -/

namespace Sys2Proof.Machine

/-- Everything the completion of one command can do: it reports an error and writes nothing else (R241), or it succeeds
with one of the five kinds of result write (R40). -/
theorem exec_cases (i : Instr) (s : State) :
    (∃ e, exec i s = .next (s.raise e)) ∨ exec i s = .next s.succeed ∨ (∃ v, exec i s = .next (s.setRes v).succeed) ∨
    (∃ b, exec i s = .next (s.setDout16 b).succeed) ∨ (∃ p, exec i s = .next (s.setDoutPair p).succeed) ∨
    (∃ rk k, exec i s = .next (s.setKeys rk k).succeed) := by
  cases i
  case nop => exact .inr (.inl rfl)
  case gfmul | sbox | sboxi => exact .inr (.inr (.inl ⟨_, rfl⟩))
  case sblk | sblki | rstep | rstepi | lxfm | lxfmi | lp | lpi => exact .inr (.inr (.inr (.inl ⟨_, rfl⟩)))
  case rcon =>
    simp only [exec, execRcon]
    split
    · exact .inr (.inr (.inr (.inl ⟨_, rfl⟩)))
    · exact .inl ⟨_, rfl⟩
  case fstep =>
    simp only [exec, execFstep]
    split
    · exact .inr (.inr (.inr (.inr (.inl ⟨_, rfl⟩))))
    · exact .inl ⟨_, rfl⟩
  case kload =>
    simp only [exec, execKload]
    split
    · exact .inr (.inr (.inr (.inr (.inr ⟨_, _, rfl⟩))))
    · exact .inl ⟨_, rfl⟩
  case kclr => exact .inr (.inr (.inr (.inr (.inr ⟨_, _, rfl⟩))))
  case rkrd =>
    simp only [exec, execRkrd]
    split
    · exact .inl ⟨_, rfl⟩
    · split
      · exact .inr (.inr (.inr (.inl ⟨_, rfl⟩)))
      · exact .inl ⟨_, rfl⟩
  case enc | dec =>
    simp only [exec, execEnc, execDec, finishCipher]
    split
    · exact .inl ⟨_, rfl⟩
    · split
      · exact .inr (.inr (.inr (.inl ⟨_, rfl⟩)))
      · exact .inl ⟨_, rfl⟩

/-- One command always answers a next state. -/
theorem exec_next (i : Instr) (s : State) : ∃ t, exec i s = .next t := by
  rcases exec_cases i s with ⟨_, h⟩ | h | ⟨_, h⟩ | ⟨_, h⟩ | ⟨_, h⟩ | ⟨_, _, h⟩ <;> exact ⟨_, h⟩

/-- Two equal outcomes that answer next states answer the same one. -/
theorem next_inj {s t : State} (h : (.next s : Host.Outcome State Fault Refusal) = .next t) : s = t := by injection h

/-- Everything a step can do: the turn's agent acts on the state with its turn taken off. -/
theorem step_cases (s : State) :
    (s.nextTurn = .host ∧ step s = .next (hostStep s.popTurn)) ∨
    (s.nextTurn = .engine ∧ s.busy = true ∧ step s = complete s.popTurn) ∨
    (s.nextTurn = .engine ∧ s.busy = false ∧ step s = .next s.popTurn) ∨
    (s.nextTurn = .reset ∧ step s = .next s.popTurn.coreReset) := by
  unfold step
  cases h : s.nextTurn
  · exact .inl ⟨rfl, rfl⟩
  · cases hb : s.busy
    · exact .inr (.inr (.inl ⟨rfl, rfl, by simp [engineStep, hb]⟩))
    · exact .inr (.inl ⟨rfl, rfl, by simp [engineStep, hb]⟩)
  · exact .inr (.inr (.inr ⟨rfl, rfl⟩))

/-- The completion step runs the decoded command, or reports IllegalCommand (R240, R243). -/
theorem complete_cases (s : State) :
    (∃ i, decode s.cmd = .command i ∧ complete s = exec i s) ∨
    (decode s.cmd = .illegal ∧ complete s = .next (s.raise .illegalCommand)) := by
  unfold complete
  cases h : decode s.cmd with
  | command i => exact .inl ⟨i, rfl, rfl⟩
  | illegal => exact .inr ⟨rfl, rfl⟩

/-- The six forms of the state a completion step leaves. -/
theorem complete_forms (s t : State) (h : complete s = .next t) :
    (∃ e, t = s.raise e) ∨ t = s.succeed ∨ (∃ v, t = (s.setRes v).succeed) ∨ (∃ b, t = (s.setDout16 b).succeed) ∨
    (∃ p, t = (s.setDoutPair p).succeed) ∨ (∃ rk k, t = (s.setKeys rk k).succeed) := by
  rcases complete_cases s with ⟨i, -, hc⟩ | ⟨-, hc⟩
  · rw [hc] at h
    rcases exec_cases i s with ⟨e, g⟩ | g | ⟨v, g⟩ | ⟨b, g⟩ | ⟨p, g⟩ | ⟨rk, k, g⟩ <;> rw [g] at h <;> have h := next_inj h
    · exact .inl ⟨e, h.symm⟩
    · exact .inr (.inl h.symm)
    · exact .inr (.inr (.inl ⟨v, h.symm⟩))
    · exact .inr (.inr (.inr (.inl ⟨b, h.symm⟩)))
    · exact .inr (.inr (.inr (.inr (.inl ⟨p, h.symm⟩))))
    · exact .inr (.inr (.inr (.inr (.inr ⟨rk, k, h.symm⟩))))
  · exact .inl ⟨_, (next_inj (hc.symm.trans h)).symm⟩

/-- The completion step always answers a next state. -/
theorem complete_next (s : State) : ∃ t, complete s = .next t := by
  rcases complete_cases s with ⟨i, -, h⟩ | ⟨-, h⟩
  · rw [h]; exact exec_next i s
  · exact ⟨_, h⟩

/-- The completion step clears BUSY (R240, R241). -/
theorem complete_not_busy (s t : State) (h : complete s = .next t) : t.busy = false := by
  rcases complete_forms s t h with ⟨_, rfl⟩ | rfl | ⟨_, rfl⟩ | ⟨_, rfl⟩ | ⟨_, rfl⟩ | ⟨_, _, rfl⟩ <;> simp

/-- The completion step never touches the agents outside KZCORE. -/
theorem complete_env (s t : State) (h : complete s = .next t) : t.env = s.env := by
  rcases complete_forms s t h with ⟨_, rfl⟩ | rfl | ⟨_, rfl⟩ | ⟨_, rfl⟩ | ⟨_, rfl⟩ | ⟨_, _, rfl⟩ <;> simp

/-- The completion step looks at KZCORE's own state only. -/
theorem complete_withEnv (s t : State) (e : Env) (h : complete s = .next t) :
    complete { s with env := e } = .next { t with env := e } := by
  have key : ∀ i, (∃ u, exec i s = .next u ∧ exec i { s with env := e } = .next { u with env := e }) := by
    intro i
    cases i
    case rcon =>
      by_cases hr : roundIndexLegal s.index = true
      · exact ⟨_, if_pos hr, if_pos hr⟩
      · exact ⟨_, if_neg hr, if_neg hr⟩
    case fstep =>
      by_cases hr : roundIndexLegal s.index = true
      · exact ⟨_, if_pos hr, if_pos hr⟩
      · exact ⟨_, if_neg hr, if_neg hr⟩
    case kload =>
      by_cases hr : s.len = 32#8
      · exact ⟨_, if_pos hr, if_pos hr⟩
      · exact ⟨_, if_neg hr, if_neg hr⟩
    case rkrd =>
      by_cases hk : s.keyv = false
      · exact ⟨_, if_pos hk, if_pos hk⟩
      · by_cases hr : s.index < 10
        · exact ⟨_, (if_neg hk).trans (dif_pos hr), (if_neg hk).trans (dif_pos hr)⟩
        · exact ⟨_, (if_neg hk).trans (dif_neg hr), (if_neg hk).trans (dif_neg hr)⟩
    case enc | dec =>
      by_cases hk : s.keyv = false
      · exact ⟨_, if_pos hk, if_pos hk⟩
      · by_cases hr : s.len = 16#8
        · exact ⟨_, (if_neg hk).trans (if_pos hr), (if_neg hk).trans (if_pos hr)⟩
        · exact ⟨_, (if_neg hk).trans (if_neg hr), (if_neg hk).trans (if_neg hr)⟩
    all_goals exact ⟨_, rfl, rfl⟩
  rcases complete_cases s with ⟨i, hd, hc⟩ | ⟨hd, hc⟩
  · obtain ⟨u, h1, h2⟩ := key i
    have : u = t := next_inj (h1.symm.trans (hc.symm.trans h))
    subst this
    simpa only [complete, hd] using h2
  · have : s.raise .illegalCommand = t := next_inj (hc.symm.trans h)
    subst this
    simp only [complete, hd, failWith, State.raise]

end Sys2Proof.Machine
end

