-- ==== Sys2Proof/Laws/Commands.lean ====
section
/-! SUPPORT. One lemma per check that commands share, and the Feistel rounds one at a time. -/

namespace Sys2Proof.Machine

/-- R85: the legal round indices. -/
theorem roundIndexLegal_iff (r : Nat) : roundIndexLegal r = true ↔ 1 ≤ r ∧ r ≤ 32 := by simp [roundIndexLegal]

/-- R212, R213: a key and LEN = 16 are what ENC and DEC need. -/
theorem finishCipher_ok (s : State) (f : Vector Block 10 → Block → Block) (hk : s.keyv = true) (hl : s.len = 16#8) :
    finishCipher s f = .next (s.setDout16 (f s.rk s.din16)).succeed := by
  simp only [finishCipher, hk, hl, finishBlock, Bool.true_eq_false, if_false, if_true]

/-- R244: KeyNotLoaded comes first. -/
theorem finishCipher_noKey (s : State) (f : Vector Block 10 → Block → Block) (hk : s.keyv = false) :
    finishCipher s f = .next (s.raise .keyNotLoaded) := by
  simp only [finishCipher, hk, failWith, if_true]

/-- R244: with a key, the length is checked. -/
theorem finishCipher_badLength (s : State) (f : Vector Block 10 → Block → Block) (hk : s.keyv = true)
    (hl : s.len ≠ 16#8) : finishCipher s f = .next (s.raise .invalidBlockLength) := by
  simp only [finishCipher, hk, hl, failWith, Bool.true_eq_false, if_false]

/-- R182: LEN = 32 is all that KLOAD needs. -/
theorem execKload_ok {s : State} (h : s.len = 32#8) :
    exec .kload s = .next (s.setKeys (keySchedule s.din32) true).succeed := by
  simp only [exec, execKload, h, finishKeys, if_true]

/-- R180: the last of n + 1 rounds, taken off at the end. -/
theorem feistelFrom_succ (n : Nat) : ∀ (r : Nat) (p : Block × Block),
    feistelFrom r (n + 1) p = feistel (feistelFrom r n p) (r + n) := by
  induction n with
  | zero => intro r p; rfl
  | succ n ih =>
    intro r p
    have h := ih (r + 1) (feistel p r)
    rw [show r + 1 + n = r + (n + 1) by omega] at h
    exact h

/-- R81: a code that decodes to a command is that command's code. -/
theorem decode_command (i : Instr) (h : decode (encode i) = .command i) (s : State) (hs : s.cmd = encode i) :
    complete s = exec i s := by
  simp only [complete, hs, h]

end Sys2Proof.Machine
end

