-- ==== Sys2Proof/Laws/PerInstr.lean ====
section
/-! SUPPORT. Statements made once per command (LAWS.json). -/

namespace Sys2Proof.Laws.EncodeDecode

/-- 30_encoding.md R81, R87: the decoder reads the command's own code back as the command. -/
def Statement (i : Instr) : Prop := decode (encode i) = .command i

theorem nop : Statement .nop := by unfold Statement; decide
theorem gfmul : Statement .gfmul := by unfold Statement; decide
theorem sbox : Statement .sbox := by unfold Statement; decide
theorem sboxi : Statement .sboxi := by unfold Statement; decide
theorem sblk : Statement .sblk := by unfold Statement; decide
theorem sblki : Statement .sblki := by unfold Statement; decide
theorem rstep : Statement .rstep := by unfold Statement; decide
theorem rstepi : Statement .rstepi := by unfold Statement; decide
theorem lxfm : Statement .lxfm := by unfold Statement; decide
theorem lxfmi : Statement .lxfmi := by unfold Statement; decide
theorem lp : Statement .lp := by unfold Statement; decide
theorem lpi : Statement .lpi := by unfold Statement; decide
theorem rcon : Statement .rcon := by unfold Statement; decide
theorem fstep : Statement .fstep := by unfold Statement; decide
theorem kload : Statement .kload := by unfold Statement; decide
theorem kclr : Statement .kclr := by unfold Statement; decide
theorem rkrd : Statement .rkrd := by unfold Statement; decide
theorem enc : Statement .enc := by unfold Statement; decide
theorem dec : Statement .dec := by unfold Statement; decide

end Sys2Proof.Laws.EncodeDecode
end

