-- ==== Sys2Proof/Laws/Window.lean ====
section
/-! SUPPORT. What a host access can do, once (20_memory.md R52 to R55). -/

namespace Sys2Proof.Machine

/-- R53: a write while BUSY = 1 is dropped. -/
theorem hostWrite_busy (s : State) (a : WindowAddr) (v : Byte) (h : s.busy = true) : s.hostWrite a v = s := by
  simp [State.hostWrite, h]

/-- R54: a write to CMD while BUSY = 0 accepts the command. -/
theorem hostWrite_cmd (s : State) (v : Byte) (h : s.busy = false) :
    s.hostWrite 0x44#7 v = { s with cmd := v, busy := true } := by
  simp [State.hostWrite, h]

/-- R52: everything a host write can do. -/
theorem hostWrite_cases (s : State) (a : WindowAddr) (v : Byte) :
    s.hostWrite a v = s ∨
    (s.busy = false ∧ ∃ h : a.toNat < 32, s.hostWrite a v = { s with din := s.din.set a.toNat v }) ∨
    (s.busy = false ∧ a = 0x40#7 ∧ s.hostWrite a v = { s with len := v }) ∨
    (s.busy = false ∧ a = 0x41#7 ∧ s.hostWrite a v = { s with arg0 := v }) ∨
    (s.busy = false ∧ a = 0x42#7 ∧ s.hostWrite a v = { s with arg1 := v }) ∨
    (s.busy = false ∧ a = 0x44#7 ∧ s.hostWrite a v = { s with cmd := v, busy := true }) := by
  unfold State.hostWrite
  by_cases hb : s.busy = true
  · exact .inl (by simp [hb])
  · have hb' : s.busy = false := by simpa using hb
    simp only [hb', Bool.false_eq_true, if_false]
    by_cases h : a.toNat < 0x20
    · exact .inr (.inl ⟨trivial, h, by simp [h]⟩)
    · simp only [h, dite_false]
      split
      · next h0 => exact .inr (.inr (.inl ⟨trivial, h0, rfl⟩))
      split
      · next h1 => exact .inr (.inr (.inr (.inl ⟨trivial, h1, rfl⟩)))
      split
      · next h2 => exact .inr (.inr (.inr (.inr (.inl ⟨trivial, h2, rfl⟩))))
      split
      · next h4 => exact .inr (.inr (.inr (.inr (.inr ⟨trivial, h4, rfl⟩))))
      · exact .inl rfl

/-- R52: a write never changes ERRCODE, KEYV, RES, DOUT or RK, nor the agents outside KZCORE. -/
theorem hostWrite_keeps (s : State) (a : WindowAddr) (v : Byte) :
    (s.hostWrite a v).errcode = s.errcode ∧ (s.hostWrite a v).keyv = s.keyv ∧ (s.hostWrite a v).res = s.res ∧
    (s.hostWrite a v).dout = s.dout ∧ (s.hostWrite a v).rk = s.rk ∧ (s.hostWrite a v).env = s.env := by
  rcases hostWrite_cases s a v with h | ⟨-, _, h⟩ | ⟨-, -, h⟩ | ⟨-, -, h⟩ | ⟨-, -, h⟩ | ⟨-, -, h⟩ <;> simp [h]

/-- R55: addresses 0x00..0x1F read DIN. -/
theorem hostRead_din (s : State) (a : WindowAddr) (h : a.toNat < 0x20) : s.hostRead a = s.din[a.toNat] := by
  simp only [State.hostRead, h, dif_pos]

/-- R55: addresses 0x20..0x3F read DOUT. -/
theorem hostRead_dout (s : State) (a : WindowAddr) (h : ¬ a.toNat < 0x20) (h' : a.toNat < 0x40) :
    s.hostRead a = s.dout[a.toNat - 0x20] := by
  simp only [State.hostRead, h, h', dif_pos, dite_false]

/-- R55: addresses from 0x40 on read the scalar registers. -/
theorem hostRead_scalar (s : State) (a : WindowAddr) (h : ¬ a.toNat < 0x40) : s.hostRead a = s.scalarRead a := by
  have h' : ¬ a.toNat < 0x20 := by omega
  simp only [State.hostRead, h, h', dite_false]

/-- R55: the end of a completion step is seen at STATUS and ERRCODE only. -/
theorem scalarRead_end (s : State) (e : Byte) (b : Bool) (a : WindowAddr) (h5 : a ≠ 0x45#7) (h6 : a ≠ 0x46#7) :
    ({ s with errcode := e, busy := b } : State).scalarRead a = s.scalarRead a := by
  simp only [State.scalarRead, h5, h6, if_false]

/-- R55: a read looks at KZCORE's own state only. -/
theorem hostRead_env (s : State) (e : Env) (a : WindowAddr) : ({ s with env := e } : State).hostRead a = s.hostRead a := rfl

end Sys2Proof.Machine
end

