-- ==== Sys2Proof/Laws/Runs.lean ====
section
/-! SUPPORT. Runs of several steps, packaged once, and the relation `sameCore`. -/

namespace Sys2Proof.Machine

theorem RunsTo.zero (s : State) : RunsTo 0 s s := rfl

/-- The host's `run`, one step at a time. -/
theorem run_succ (n : Nat) (s : State) :
    Host.Core.run Sys2Proof.core (n + 1) s =
      (match step s with
        | .next s' => Host.Core.run Sys2Proof.core n s'
        | .fault r => .fault r
        | .refused r => .refused r : Host.Outcome State Fault Refusal) := by
  have e := Host.Core.run.eq_2 Sys2Proof.core s n
  rw [show Host.Core.step Sys2Proof.core s = step s from rfl] at e
  rw [e]
  cases step s <;> rfl

/-- One more step in front of a run. -/
theorem RunsTo.cons {n : Nat} {s t u : State} (h : step s = .next t) (r : RunsTo n t u) : RunsTo (n + 1) s u := by
  unfold RunsTo
  rw [run_succ, h]
  exact r

/-- A property that a step keeps holds along every run. -/
theorem RunsTo.keeps {P : State → Prop} (hP : ∀ s t, P s → step s = .next t → P t) {n : Nat} :
    ∀ {s t : State}, P s → RunsTo n s t → P t := by
  induction n with
  | zero =>
    intro s t hs r
    have e : s = t := next_inj r
    exact e ▸ hs
  | succ n ih =>
    intro s t hs r
    unfold RunsTo at r
    rw [run_succ] at r
    cases h : step s with
    | next u =>
      rw [h] at r
      exact ih (hP s u hs h) r
    | fault f => cases f
    | refused f =>
      rw [h] at r
      cases r

theorem State.sameCore.refl (s : State) : s.sameCore s := rfl

theorem State.sameCore.trans {s t u : State} (h : s.sameCore t) (h' : t.sameCore u) : s.sameCore u := by
  unfold State.sameCore at h h' ⊢
  rw [h', h]

theorem sameCore_popTurn (s : State) : s.sameCore s.popTurn := rfl

/-- While BUSY = 1 a host step leaves KZCORE as it was (R53, R55). -/
theorem hostStep_sameCore (s : State) (h : s.busy = true) : s.sameCore (hostStep s) := by
  unfold hostStep
  split
  · rename_i o _
    cases o with
    | wr a v => simp only [hostExec, hostWrite_busy s a v h]; rfl
    | rd a => rfl
    | bnz label m =>
      simp only [hostExec]
      split <;> (unfold State.drawBranchValue; split <;> rfl)
  · rfl

/-- A host step takes no turn by itself. -/
theorem hostStep_turns (s : State) : (hostStep s).env.turns = s.env.turns := by
  unfold hostStep
  split
  · rename_i o _
    cases o with
    | wr a v => simp [hostExec, (hostWrite_keeps s a v).2.2.2.2.2]
    | rd a => rfl
    | bnz label m =>
      simp only [hostExec]
      split <;> simp
  · rfl

/-- The completion step on the same core state leaves the same core state. -/
theorem complete_sameCore {s s' t : State} (h : s.sameCore s') (hc : complete s = .next t) :
    ∃ t', complete s' = .next t' ∧ t.sameCore t' := by
  unfold State.sameCore at h
  rw [h]
  exact ⟨_, complete_withEnv s t s'.env hc, rfl⟩

end Sys2Proof.Machine
end

