-- ==== Sys2Proof/Tests/Slice0.lean ====
section
/-! SUPPORT. The model's own tests: smoke tests of the checks, decoding, one step per vector of spec/95_test_vectors.md, and a
witness for the hypotheses of each statement. Every expected value is the spec's. -/

namespace Sys2Proof.Tests

open Sys2Proof Sys2Proof.Machine

set_option maxRecDepth 4000
set_option Elab.async false

/-! ### Helpers -/

/-- The state a step leaves (the reset state where it leaves none). -/
def after (o : Host.Outcome State Fault Refusal) : State :=
  match o with
  | .next s => s
  | .fault _ => State.reset
  | .refused _ => State.reset

/-- One step that completes the command with code `c`, accepted in `s`. -/
def run1 (c : Nat) (s : State) : State := after (step (s.withFetchWord 8 c))

/-- DIN holding two Blocks written as hex strings. -/
def withDin (l r : Nat) (s : State) : State := { s with din := pairBytes (blockOfHex l, blockOfHex r) }

/-- The round keys of V3 (the CL2 §8 key). -/
def v3Keys : Vector Block 10 :=
  #v[blockOfHex 0x8899aabbccddeeff0011223344556677, blockOfHex 0xfedcba98765432100123456789abcdef,
     blockOfHex 0xdb31485315694343228d6aef8cc78c44, blockOfHex 0x3d4553d8e9cfec6815ebadc40a9ffd04,
     blockOfHex 0x57646468c44a5e28d3e59246f429f1ac, blockOfHex 0xbd079435165c6432b532e82834da581b,
     blockOfHex 0x51e640757e8745de705727265a0098b1, blockOfHex 0x5a7925017b9fdd3ed72a91a22286f984,
     blockOfHex 0xbb44e25378c73123a5f32f73cdb6e517, blockOfHex 0x72e9dd7416bcf45b755dbaa88e4a4043]

/-- A state with the round keys of V3 loaded and LEN = 16. -/
def keyed : State := { State.reset with rk := v3Keys, keyv := true, len := 0x10#8 }

/-! ### Well-formedness: each check refuses an ill-formed term -/

theorem test_wf_bus_read_with_data_refused : busWordWf 0x4501#16 = false := by decide
theorem test_wf_bus_read_accepted : busWordWf 0x4500#16 = true := by decide
theorem test_wf_branch_target_past_end_refused : hostProgramWf [.rd 0x45#7, .bnz 3 0x01#8] = false := by decide
theorem test_wf_branch_before_read_refused : hostProgramWf [.bnz 0 0x01#8, .rd 0x45#7] = false := by decide
theorem test_wf_wait_loop_accepted : hostProgramWf [.rd 0x45#7, .bnz 0 0x01#8] = true := by decide
theorem test_wf_wrblk_past_window_refused : Pseudo.wf (.wrblk 0x7F#7 [0x01#8, 0x02#8]) = false := by decide
theorem test_wf_rdblk_past_window_refused : Pseudo.wf (.rdblk 0x70#7 17) = false := by decide
theorem test_wf_every_command_accepted : Instr.wf .nop = true ∧ Pseudo.wf (.run .enc) = true := by decide

/-! ### Decoding: the words of 30_encoding.md R81, bit by bit -/

theorem test_decode_byte_group :
    decode 0b00000000#8 = .command .nop ∧
    decode 0b00000001#8 = .command .gfmul ∧
    decode 0b00000010#8 = .command .sbox ∧
    decode 0b00000011#8 = .command .sboxi := by decide
theorem test_decode_block_group :
    decode 0b00010000#8 = .command .sblk ∧
    decode 0b00010001#8 = .command .sblki ∧
    decode 0b00010010#8 = .command .rstep ∧
    decode 0b00010011#8 = .command .rstepi ∧
    decode 0b00010100#8 = .command .lxfm ∧
    decode 0b00010101#8 = .command .lxfmi ∧
    decode 0b00010110#8 = .command .lp ∧
    decode 0b00010111#8 = .command .lpi := by decide
theorem test_decode_constant_group :
    decode 0b00100000#8 = .command .rcon ∧
    decode 0b00100001#8 = .command .fstep := by decide
theorem test_decode_key_group :
    decode 0b00110000#8 = .command .kload ∧
    decode 0b00110001#8 = .command .kclr ∧
    decode 0b00110010#8 = .command .rkrd := by decide
theorem test_decode_cipher_group :
    decode 0b01000000#8 = .command .enc ∧
    decode 0b01000001#8 = .command .dec := by decide
theorem test_decode_neighbours_illegal :
    decode 0b00000100#8 = .illegal ∧ decode 0b00011000#8 = .illegal ∧ decode 0b00100010#8 = .illegal ∧
    decode 0b00110011#8 = .illegal ∧ decode 0b01000010#8 = .illegal ∧ decode 0b10000000#8 = .illegal ∧
    decode 0b11111111#8 = .illegal := by decide
theorem test_decodeTableWord :
    decodeTableWord 8 0x41 = some .dec ∧ decodeTableWord 8 0x04 = none ∧ decodeTableWord 16 0x41 = none := by decide
theorem test_bus_words :
    encodeAccess (.write 0x44#7 0x40#8) = 0xC440#16 ∧ encodeAccess (.read 0x45#7) = 0x4500#16 ∧
    encodeAccess (.write 0x1F#7 0xEF#8) = 0x9FEF#16 ∧ decodeAccess 0x8088#16 = .access (.write 0x00#7 0x88#8) ∧
    decodeAccess 0x7E00#16 = .access (.read 0x7E#7) ∧ decodeAccess 0x4501#16 = .readWithData 0x45#7 0x01#8 := by decide

/-! ### One step per command (spec/95_test_vectors.md, the vector named) -/

/-- V184 -/
theorem test_nop_clears_errcode : (run1 0x00 { State.reset with errcode := 0x04#8 }).errcode = 0x00#8 := by decide +kernel
/-- V28, V38 -/
theorem test_gfmul_reduces : (run1 0x01 { State.reset with arg0 := 0x02#8, arg1 := 0x80#8 }).res = 0xC3#8 ∧
    (run1 0x01 { State.reset with arg0 := 0x57#8, arg1 := 0x83#8 }).res = 0xF2#8 := by decide +kernel
/-- V46, V50 -/
theorem test_sbox : (run1 0x02 { State.reset with arg0 := 0x11#8 }).res = 0x77#8 ∧
    (run1 0x02 { State.reset with arg0 := 0xFF#8 }).res = 0xB6#8 := by decide +kernel
/-- V51, V56 -/
theorem test_sboxi :
    (run1 0x03 State.reset).res = 0xA5#8 ∧
      (run1 0x03 { State.reset with arg0 := 0xA5#8 }).res = 0xBA#8 := by decide +kernel
/-- V63 -/
theorem test_sblk :
    leftHalf (run1 0x10 (withDin 0x1122334455667700ffeeddccbbaa9988 0x5a State.reset)).dout =
      blockOfHex 0x7765aeea0c9a7efcb66cd8887d38e8d7 := by decide +kernel
/-- V67 -/
theorem test_sblki :
    leftHalf (run1 0x11 (withDin 0x000102030405060708090a0b0c0d0e0f 0x5a State.reset)).dout =
      blockOfHex 0xa52d328f0e3038c054e69e39557e5291 := by decide +kernel
/-- V73 -/
theorem test_rstep :
    leftHalf (run1 0x12 (withDin 0x000102030405060708090a0b0c0d0e0f 0x5a State.reset)).dout =
      blockOfHex 0xd7000102030405060708090a0b0c0d0e := by decide +kernel
/-- V79 -/
theorem test_rstepi :
    leftHalf (run1 0x13 (withDin 0x000102030405060708090a0b0c0d0e0f 0x5a State.reset)).dout =
      blockOfHex 0x0102030405060708090a0b0c0d0e0fa8 := by decide +kernel
/-- V92 -/
theorem test_lxfm :
    leftHalf (run1 0x14 (withDin 0x64a59400000000000000000000000000 0x5a State.reset)).dout =
      blockOfHex 0xd456584dd0e3e84cc3166e4b7fa2890d := by decide +kernel
/-- V99 -/
theorem test_lxfmi :
    leftHalf (run1 0x15 (withDin 0xd456584dd0e3e84cc3166e4b7fa2890d 0x5a State.reset)).dout =
      blockOfHex 0x64a59400000000000000000000000000 := by decide +kernel
/-- V104 -/
theorem test_lp :
    leftHalf (run1 0x16 (withDin 0x1122334455667700ffeeddccbbaa9988 0x5a State.reset)).dout =
      blockOfHex 0x5d7bb3984b3096e482c6bdb5b32d55f0 := by decide +kernel
/-- V107 -/
theorem test_lpi :
    leftHalf (run1 0x17 (withDin 0x5d7bb3984b3096e482c6bdb5b32d55f0 0x5a State.reset)).dout =
      blockOfHex 0x1122334455667700ffeeddccbbaa9988 := by decide +kernel
/-- V126 -/
theorem test_rcon :
    leftHalf (run1 0x20 { State.reset with arg0 := 0x20#8 }).dout =
      blockOfHex 0x5ea7d8581e149b61f16ac1459ceda820 := by decide +kernel
/-- V127, V128 -/
theorem test_rcon_bounds :
    (run1 0x20 State.reset).errcode = 0x04#8 ∧
      (run1 0x20 { State.reset with arg0 := 0x21#8 }).errcode = 0x04#8 := by decide +kernel
/-- V130 -/
theorem test_fstep :
    (run1 0x21 { withDin 0x8899aabbccddeeff0011223344556677 0xfedcba98765432100123456789abcdef State.reset with
      arg0 := 0x01#8 }).dout =
    pairBytes (blockOfHex 0xc3d5fa01ebe36f7a9374427ad7ca8949, blockOfHex 0x8899aabbccddeeff0011223344556677) := by
      decide +kernel
/-- V136, V137 -/
theorem test_fstep_bounds :
    (run1 0x21 State.reset).errcode = 0x04#8 ∧
      (run1 0x21 { State.reset with arg0 := 0x21#8 }).errcode = 0x04#8 := by decide +kernel
/-- V140: RK[0], RK[1] and KEYV -/
theorem test_kload_first_keys :
    let s := run1 0x30 { withDin 0x8899aabbccddeeff0011223344556677 0xfedcba98765432100123456789abcdef State.reset with
      len := 0x20#8 }
    s.rk[0] = v3Keys[0] ∧ s.rk[1] = v3Keys[1] ∧ s.keyv = true ∧ s.errcode = 0x00#8 := by decide +kernel
/-- V5a, V5b, V145 -/
theorem test_kload_lengths : (run1 0x30 { State.reset with len := 0x1F#8 }).errcode = 0x01#8 ∧
    (run1 0x30 { State.reset with len := 0x21#8 }).errcode = 0x01#8 ∧
      (run1 0x30 State.reset).keyv = false := by decide +kernel
/-- V147 -/
theorem test_kclr :
    (run1 0x31 keyed).keyv = false ∧ (run1 0x31 keyed).rk = zeroKeys ∧
      (run1 0x31 keyed).status = 0x00#8 := by decide +kernel
/-- V151, V152 -/
theorem test_rkrd : leftHalf (run1 0x32 { keyed with arg0 := 0x09#8 }).dout = v3Keys[9] ∧
    (run1 0x32 { keyed with arg0 := 0x0A#8 }).errcode = 0x04#8 := by decide +kernel
/-- V155 -/
theorem test_rkrd_key_before_index : (run1 0x32 { State.reset with arg0 := 0x0A#8 }).errcode = 0x03#8 := by decide +kernel
/-- V1, V160 -/
theorem test_enc :
    leftHalf (run1 0x40 (withDin 0x1122334455667700ffeeddccbbaa9988 0x5a5a keyed)).dout =
      blockOfHex 0x7f679d90bebc24305a468d42b9d4edcd := by decide +kernel
/-- V5c, V175, V177 -/
theorem test_enc_errors :
    (run1 0x40 { keyed with len := 0x0F#8 }).errcode = 0x02#8 ∧
      (run1 0x40 { keyed with len := 0x20#8 }).errcode = 0x02#8 ∧
    (run1 0x40 { State.reset with len := 0x10#8 }).errcode = 0x03#8 := by decide +kernel
/-- V2, V161 -/
theorem test_dec :
    leftHalf (run1 0x41 (withDin 0x7f679d90bebc24305a468d42b9d4edcd 0x0 keyed)).dout =
      blockOfHex 0x1122334455667700ffeeddccbbaa9988 := by decide +kernel
/-- V5f, V178 -/
theorem test_dec_errors : (run1 0x41 { keyed with len := 0x11#8 }).errcode = 0x02#8 ∧
    (run1 0x41 { State.reset with len := 0x0F#8 }).errcode = 0x03#8 := by decide +kernel
/-- V186 -/
theorem test_illegal_code :
    (run1 0x04 State.reset).errcode = 0x05#8 ∧ (run1 0x04 State.reset).cmd = 0x04#8 := by decide +kernel

/-! ### The window and the agents -/

/-- V198 -/
theorem test_status_while_busy :
    ({ keyed with errcode := 0x02#8, busy := true } : State).hostRead 0x45#7 = 0x07#8 := by decide +kernel
/-- V192, V193 -/
theorem test_identity_and_reserved :
    keyed.hostRead 0x7E#7 = 0x4B#8 ∧ keyed.hostRead 0x7F#7 = 0x01#8 ∧ keyed.hostRead 0x47#7 = 0x00#8 ∧
    keyed.hostRead 0x7D#7 = 0x00#8 := by decide +kernel
/-- V195, V199, V200 -/
theorem test_ignored_writes : keyed.hostWrite 0x43#7 0x55#8 = keyed ∧ keyed.hostWrite 0x20#7 0x99#8 = keyed ∧
    ({ keyed with busy := true } : State).hostWrite 0x44#7 0x41#8 = { keyed with busy := true } := by decide +kernel
/-- V202: DOUT, KEYV and BUSY -/
theorem test_reset_abandons_command :
    let s := after (step { keyed with busy := true, cmd := 0x40#8, env := { Env.initial with turns := [.reset] } })
    s.busy = false ∧ s.keyv = false ∧ s.errcode = 0x00#8 := by decide +kernel
/-- R90 -/
theorem test_wait_expansion :
    assemble [.seta0 0x11#8, .run .sbox] = [.wr 0x41#7 0x11#8, .wr 0x44#7 0x02#8, .rd 0x45#7, .bnz 2 0x01#8] := by
      decide +kernel

/-! ### Witnesses: the hypotheses of each statement can be met, each clause at a boundary -/

/-- A state whose turns and host program are given. -/
def placed (s : State) (turns : List Turn) (prog : List HostOp) (reads : List Byte) : State :=
  { s with env := { prog := prog, pos := 0, reads := reads, turns := turns, draws := 0 } }

theorem witness_ResetEventGivesResetValues :
    ∃ s : State, s.busy = true ∧
      s.env.turns.head? = some .reset := ⟨placed { keyed with busy := true } [.reset] [] [], rfl, rfl⟩
theorem witness_ResetValues : ∃ a : WindowAddr, a.toNat = 0x46 ∧ a.toNat ≤ 0x46 := ⟨0x46#7, by decide⟩
theorem witness_DecoderFollowsOpcodeMap : ∃ c : Byte, c ∉ ([0x00, 0x01, 0x02, 0x03, 0x10, 0x11, 0x12, 0x13, 0x14, 0x15,
    0x16, 0x17, 0x20, 0x21, 0x30, 0x31, 0x32, 0x40, 0x41] : List Byte) ∧ c = 0x42#8 := ⟨0x42#8, by decide⟩
theorem witness_DecodeEncodeAgree :
    Instr.wf .dec = true ∧ ∃ (c : Byte) (i : Instr), decode c = .command i := ⟨rfl, 0x41#8, .dec, by decide⟩
theorem witness_BusWordsRoundTrip : (∃ (t : BusWord) (x : Access), decodeAccess t = .access x) ∧
    ∃ t : BusWord, busWordWf t = false := ⟨⟨0xC440#16, .write 0x44#7 0x40#8, by decide⟩, 0x4501#16, by decide⟩
theorem witness_StepRunsDecodedCommand_laid_out : ∃ (s : State) (i : Instr), s.busy = true ∧
    s.env.turns.head? = some .engine ∧ decode s.cmd = .command i :=
  ⟨placed { keyed with busy := true, cmd := 0x41#8 } [.engine] [] [], .dec, rfl, rfl, by decide⟩
theorem witness_StepRunsDecodedCommand_none_left : ∃ (s : State) (i : Instr), s.busy = true ∧ s.env.turns = [] ∧
    decode s.cmd = .command i := ⟨{ keyed with busy := true }, .nop, rfl, rfl, by decide⟩
theorem witness_IllegalCodeReportsIllegalCommand_laid_out : ∃ s : State, s.busy = true ∧ decode s.cmd = .illegal ∧
    s.env.turns.head? = some .engine := ⟨placed { keyed with busy := true, cmd := 0xFF#8 } [.engine] [] [], rfl,
      by decide, rfl⟩
theorem witness_IllegalCodeReportsIllegalCommand_none_left : ∃ s : State, s.busy = true ∧ decode s.cmd = .illegal ∧
    s.env.turns = [] := ⟨{ keyed with busy := true, cmd := 0x04#8 }, rfl, by decide, rfl⟩
theorem witness_IdleEngineChangesNothing : ∃ s : State, s.busy = false ∧ s.env.turns.head? = some .engine :=
  ⟨placed keyed [.engine] [] [], rfl, rfl⟩
theorem witness_NopOnlyReportsSuccess : State.reset.busy = false := rfl
theorem witness_SboxCommandsWriteTableEntry : ∃ s t u v : State, exec .sbox s = .next t ∧ u.arg0 = t.res ∧
    exec .sboxi u = .next v :=
  ⟨State.reset, _, { State.reset with arg0 := pi 0x00#8 }, _, rfl, rfl, rfl⟩
theorem witness_FieldLaws : ∃ a b : Byte, a ≠ 0x00#8 ∧ mul a b = 0x01#8 := ⟨0x02#8, 0xE1#8, by decide, by decide⟩
theorem witness_RconWritesConstantOrInvalidIndex :
    (∃ s : State, (1 ≤ s.arg0.toNat ∧ s.arg0.toNat ≤ 32) ∧
      ∃ u : Block, (∀ i : Fin 15, u[i.val] = 0x00#8) ∧ u[15] = s.arg0) ∧
    (∃ s : State, s.arg0 = 0x00#8) ∧ (∃ s : State, 0x21 ≤ s.arg0.toNat) :=
  ⟨⟨{ State.reset with arg0 := 0x20#8 }, by decide, unitBlock 0x20, by decide +kernel, by decide +kernel⟩,
   ⟨State.reset, rfl⟩, ⟨{ State.reset with arg0 := 0x21#8 }, by decide⟩⟩
theorem witness_RoundConstantsEndInIndex : ∃ r : Nat, 1 ≤ r ∧ r ≤ 32 := ⟨32, by decide⟩
theorem witness_FstepRunsOneRoundOrInvalidIndex :
    (∃ s : State, 1 ≤ s.arg0.toNat ∧ s.arg0.toNat ≤ 32) ∧ (∃ s : State, s.arg0 = 0x00#8) ∧
    (∃ s : State, 0x21 ≤ s.arg0.toNat) :=
  ⟨⟨{ State.reset with arg0 := 0x01#8 }, by decide⟩, ⟨State.reset, rfl⟩, ⟨{ State.reset with arg0 := 0x21#8 }, by decide⟩⟩
/-- Every key has its trajectory, so the statement says something of every key. -/
theorem witness_KeyScheduleSamplesFeistelRounds (k : Key) : ∃ left right : Nat → Block,
    (∀ i : Fin 16, (left 0)[i.val] = k[i.val]) ∧ (∀ i : Fin 16, (right 0)[i.val] = k[16 + i.val]) ∧
    (∀ r, 1 ≤ r → r ≤ 32 →
      left r = xorBlock (lpBlock (xorBlock (left (r - 1)) (roundConst r))) (right (r - 1)) ∧ right r = left (r - 1)) := by
  refine ⟨fun n => (feistelFrom 1 n (leftHalf k, rightHalf k)).1, fun n => (feistelFrom 1 n (leftHalf k, rightHalf k)).2,
    fun i => ?_, fun i => ?_, ?_⟩
  · simp [feistelFrom]
  · simp [feistelFrom]
  · intro r h1 _
    obtain ⟨n, rfl⟩ : ∃ n, r = n + 1 := ⟨r - 1, by omega⟩
    simp only [feistelFrom_succ, Nat.add_sub_cancel, feistel, Nat.add_comm 1 n, and_self]
theorem witness_KloadDerivesKeysOrInvalidKeyLength :
    (∃ s : State, s.len = 0x20#8) ∧ (∃ s : State, s.len = 0x1F#8 ∧ s.len ≠ 0x20#8) :=
  ⟨⟨{ State.reset with len := 0x20#8 }, rfl⟩, ⟨{ State.reset with len := 0x1F#8 }, rfl, by decide⟩⟩
theorem witness_KclrDiscardsKeys : ∃ i : Instr, i = .enc ∨ i = .dec ∨ i = .rkrd := ⟨.rkrd, by decide⟩
theorem witness_RkrdReadsRoundKey :
    (∃ (s : State) (j : Fin 10), s.keyv = true ∧ s.arg0.toNat = j.val) ∧ (∃ s : State, s.keyv = false) ∧
    (∃ s : State, s.keyv = true ∧ 0x0A ≤ s.arg0.toNat) :=
  ⟨⟨{ keyed with arg0 := 0x09#8 }, 9, rfl, by decide⟩, ⟨State.reset, rfl⟩, ⟨{ keyed with arg0 := 0x0A#8 }, rfl,
    by decide⟩⟩
/-- With all-zero round keys each round is LP alone, so its trajectory is an iteration. -/
theorem witness_EncRunsNineRoundsAndWhitening :
    (∃ (s : State) (b : Nat → Block), s.keyv = true ∧ s.len = 0x10#8 ∧ b 0 = leftHalf s.din ∧
      ∀ i : Fin 9, b (i.val + 1) = lpBlock (xorBlock (b i.val) s.rk[i.val])) ∧
    (∃ s : State, s.keyv = false) ∧ (∃ s : State, s.keyv = true ∧ s.len ≠ 0x10#8) := by
  refine ⟨⟨{ State.reset with keyv := true, len := 0x10#8 },
    fun n => (fun x => lpBlock (xorBlock x (Vector.replicate 16 0x00#8)))^[n] (leftHalf State.reset.din), rfl, rfl,
      rfl, ?_⟩,
    ⟨State.reset, rfl⟩, ⟨{ keyed with len := 0x11#8 }, rfl, by decide⟩⟩
  intro i
  simp [State.reset, Function.iterate_succ_apply']
theorem witness_DecRunsRoundsInReverse :
    (∃ (s : State) (b : Nat → Block), s.keyv = true ∧ s.len = 0x10#8 ∧ b 9 = leftHalf s.din ∧
      ∀ i : Fin 9, b i.val = lpInvBlock (xorBlock (b (i.val + 1)) s.rk[i.val + 1])) ∧
    (∃ s : State, s.keyv = false) ∧ (∃ s : State, s.keyv = true ∧ s.len ≠ 0x10#8) := by
  refine ⟨⟨{ State.reset with keyv := true, len := 0x10#8 },
    fun n => (fun x => lpInvBlock (xorBlock x (Vector.replicate 16 0x00#8)))^[9 - n] (leftHalf State.reset.din), rfl,
      rfl, rfl, ?_⟩,
    ⟨State.reset, rfl⟩, ⟨{ keyed with len := 0x0F#8 }, rfl, by decide⟩⟩
  intro i
  have h : 9 - i.val = (9 - (i.val + 1)) + 1 := by omega
  simp only [h, Function.iterate_succ_apply']
  simp [State.reset]
theorem witness_DecAfterEncRestoresBlock : ∃ s0 s1 s2 s3 s4 s5 : State, s0.len = 0x20#8 ∧ exec .kload s0 = .next s1 ∧
    s2.rk = s1.rk ∧ s2.keyv = s1.keyv ∧ s2.len = 0x10#8 ∧ exec .enc s2 = .next s3 ∧
    s4.rk = s3.rk ∧ s4.keyv = s3.keyv ∧ s4.len = 0x10#8 ∧ leftHalf s4.din = leftHalf s3.dout ∧
      exec .dec s4 = .next s5 := by
  obtain ⟨s1, h1, k1⟩ : ∃ s1, exec .kload { State.reset with len := 0x20#8 } = .next s1 ∧ s1.keyv = true :=
    ⟨_, execKload_ok rfl, by simp⟩
  obtain ⟨s3, h3, k3⟩ : ∃ s3, exec .enc { s1 with len := 0x10#8 } = .next s3 ∧ s3.keyv = true :=
    ⟨_, finishCipher_ok _ _ k1 rfl, by simp [k1]⟩
  obtain ⟨s5, h5⟩ := exec_next .dec { s3 with len := 0x10#8, din := s3.dout }
  exact ⟨_, s1, _, s3, _, s5, by simp, h1, by simp, by simp, by simp, h3, by simp, by simp, by simp, by simp, h5⟩
theorem witness_CipherIgnoresOtherRegisters : ∃ (i : Instr) (s s' t t' : State), (i = .enc ∨ i = .dec) ∧ s.rk = s'.rk ∧
    s.keyv = s'.keyv ∧ s.len = s'.len ∧ leftHalf s.din = leftHalf s'.din ∧ s.keyv = true ∧ s.len = 0x10#8 ∧
    exec i s = .next t ∧ exec i s' = .next t' := by
  obtain ⟨t, h⟩ := exec_next .enc keyed
  obtain ⟨t', h'⟩ := exec_next .enc { keyed with arg0 := 0xFF#8 }
  exact ⟨.enc, keyed, { keyed with arg0 := 0xFF#8 }, t, t', .inl rfl, rfl, rfl, rfl, rfl, rfl, rfl, h, h'⟩
theorem witness_ByteCommandFrame : ∃ (i : Instr) (s t : State) (a : WindowAddr), i = .nop ∧ exec i s = .next t ∧
    a ≠ 0x43#7 ∧ a ≠ 0x45#7 ∧ a ≠ 0x46#7 := ⟨.nop, State.reset, _, 0x44#7, rfl, rfl, by decide⟩
theorem witness_BlockCommandFrame : ∃ (i : Instr) (s t : State) (a : WindowAddr), i = .dec ∧
    i ∈ ([.sblk, .sblki, .rstep, .rstepi, .lxfm, .lxfmi, .lp, .lpi, .rcon, .rkrd, .enc, .dec] : List Instr) ∧
    exec i s = .next t ∧ ¬ (0x20 ≤ a.toNat ∧ a.toNat ≤ 0x2F) ∧ a ≠ 0x45#7 ∧ a ≠ 0x46#7 := by
  obtain ⟨t, h⟩ := exec_next .dec keyed
  exact ⟨.dec, keyed, t, 0x30#7, rfl, by simp, h, by decide⟩
theorem witness_FstepFrame : ∃ (s t : State) (a : WindowAddr), exec .fstep s = .next t ∧
    ¬ (0x20 ≤ a.toNat ∧ a.toNat ≤ 0x3F) ∧ a ≠ 0x45#7 ∧ a ≠ 0x46#7 := by
  obtain ⟨t, h⟩ := exec_next .fstep { keyed with arg0 := 0x01#8 }
  exact ⟨_, t, 0x40#7, h, by decide⟩
theorem witness_KeyCommandFrame : ∃ (i : Instr) (s t : State) (a : WindowAddr), (i = .kload ∨ i = .kclr) ∧
    exec i s = .next t ∧ a ≠ 0x45#7 ∧ a ≠ 0x46#7 := by
  obtain ⟨t, h⟩ := exec_next .kclr keyed
  exact ⟨.kclr, keyed, t, 0x20#7, .inr rfl, h, by decide⟩
theorem witness_EngineNeverWritesOperands : ∃ s t : State, complete s = .next t := ⟨State.reset, complete_next _⟩
theorem witness_KeysChangeOnlyByKeyCommandsOrReset : ∃ s t : State, step s = .next t ∧ (t.rk ≠ s.rk ∨ t.keyv ≠ s.keyv) :=
  ⟨placed { keyed with busy := true, cmd := 0x31#8 } [.engine] [] [], _, rfl, .inr (by decide)⟩
theorem witness_UpperDoutChangesOnlyByFstepOrReset :
    ∃ s t : State, step s = .next t ∧ rightHalf t.dout ≠ rightHalf s.dout := by
  refine ⟨placed { keyed with dout := pairBytes (blockOfHex 1, blockOfHex 1) } [.reset] [] [], _, rfl, ?_⟩
  intro h
  have h' := congrArg (fun b : Block => b[15]) h
  exact absurd h' (by decide +kernel)
theorem witness_FailedCommandWritesOnlyErrcodeAndBusy : ∃ s t : State, complete s = .next t ∧ t.errcode ≠ 0x00#8 :=
  ⟨{ State.reset with cmd := 0x04#8 }, _, rfl, by decide⟩
theorem witness_ErrorCodeByCauseAndPriority :
    (run1 0x42 { State.reset with len := 0x0F#8 }).errcode = 0x05#8 ∧
      (run1 0x41 { State.reset with len := 0x0F#8 }).errcode = 0x03#8 ∧
    (run1 0x30 { State.reset with len := 0x21#8 }).errcode = 0x01#8 ∧
      (run1 0x41 { keyed with len := 0x11#8 }).errcode = 0x02#8 ∧
    (run1 0x20 { State.reset with arg0 := 0x21#8 }).errcode = 0x04#8 ∧
      (run1 0x32 { keyed with arg0 := 0x0A#8 }).errcode = 0x04#8 ∧
    (run1 0x32 { keyed with arg0 := 0x09#8 }).errcode = 0x00#8 := by decide +kernel
theorem witness_LenPersistsAfterKload : ∃ (i : Instr) (s t : State), (i = .enc ∨ i = .dec) ∧ s.len = 0x20#8 ∧
    exec .kload s = .next t := by
  obtain ⟨t, h⟩ := exec_next .kload { State.reset with len := 0x20#8 }
  exact ⟨.dec, _, t, .inr rfl, rfl, h⟩
theorem witness_LenPersistsAfterKload_next_block :
    ∃ u v : State, u.keyv = true ∧ u.len = 0x10#8 ∧ exec .enc u = .next v := by
  obtain ⟨v, h⟩ := exec_next .enc keyed
  exact ⟨keyed, v, rfl, rfl, h⟩
theorem witness_WindowReadMap : ∃ a : WindowAddr, 0x47 ≤ a.toNat ∧ a.toNat ≤ 0x7D ∧ a = 0x7D#7 := ⟨0x7D#7, by decide⟩
theorem witness_IgnoredWritesHaveNoEffect :
    (∃ s : State, s.busy = true) ∧ (∃ a : WindowAddr, a = 0x20#7 ∧ 0x20 ≤ a.toNat ∧ a.toNat ≤ 0x3F) ∧
    (∃ a : WindowAddr, a = 0x3F#7 ∧ 0x20 ≤ a.toNat ∧ a.toNat ≤ 0x3F) ∧ (∃ a : WindowAddr, a = 0x45#7 ∧ 0x45 ≤ a.toNat) :=
  ⟨⟨{ keyed with busy := true }, rfl⟩, ⟨0x20#7, by decide⟩, ⟨0x3F#7, by decide⟩, ⟨0x45#7, by decide⟩⟩
theorem witness_CmdWriteAcceptsAnyByte : ∃ (s : State) (v : Byte), s.busy = false ∧ decode v = .illegal :=
  ⟨State.reset, 0xFF#8, rfl, by decide⟩
theorem witness_OperandWriteReadsBack : State.reset.busy = false ∧ (∃ a : WindowAddr, a = 0x1F#7 ∧ a.toNat ≤ 0x1F) ∧
    (∃ a : WindowAddr, a = 0x40#7 ∧ 0x40 ≤ a.toNat ∧ a.toNat ≤ 0x42) ∧
    (∃ a : WindowAddr, a = 0x42#7 ∧ 0x40 ≤ a.toNat ∧ a.toNat ≤ 0x42) :=
  ⟨rfl, ⟨0x1F#7, by decide⟩, ⟨0x40#7, by decide⟩, ⟨0x42#7, by decide⟩⟩
theorem witness_OperandWritesCommute : ∃ (s : State) (a b : WindowAddr) (v w : Byte), s.busy = false ∧ a ≠ b ∧
    a ≠ 0x44#7 ∧ b ≠ 0x44#7 ∧ (s.hostWrite a v).hostWrite b w ≠ s :=
  ⟨State.reset, 0x1F#7, 0x40#7, 0x01#8, 0x10#8, rfl, by decide, by decide, by decide, by decide⟩
theorem witness_BlockSubstitutionInvertible : ∃ (b d : Block) (i : Fin 16), b ≠ d ∧ b[i.val] = d[i.val] :=
  ⟨blockOfHex 0, blockOfHex 1, 0, by decide +kernel, by decide +kernel⟩
theorem witness_HostStepPerformsOperation_wr : ∃ (s : State) (o : HostOp) (a : WindowAddr) (v : Byte),
    s.env.turns.head? = some .host ∧ s.env.prog[s.env.pos]? = some o ∧ o = .wr a v :=
  ⟨placed keyed [.host] [.wr 0x1F#7 0x12#8] [], _, _, _, rfl, rfl, rfl⟩
theorem witness_HostStepPerformsOperation_rd : ∃ (s : State) (o : HostOp) (a : WindowAddr),
    s.env.turns.head? = some .host ∧ s.env.prog[s.env.pos]? = some o ∧ o = .rd a :=
  ⟨placed keyed [.host] [.rd 0x45#7] [], _, _, rfl, rfl, rfl⟩
theorem witness_HostStepPerformsOperation_bnz : ∃ (s : State) (o : HostOp) (label : Nat) (m v : Byte) (rest : List Byte),
    s.env.turns.head? = some .host ∧ s.env.prog[s.env.pos]? = some o ∧ o = .bnz label m ∧ s.env.reads = v :: rest ∧
    v &&& m ≠ 0x00#8 :=
  ⟨placed keyed [.host] [.bnz 0 0x01#8] [0x05#8], _, _, _, _, _, rfl, rfl, rfl, rfl, by decide⟩
theorem witness_HostStepPerformsOperation_bnz_not_taken :
    ∃ (s : State) (o : HostOp) (label : Nat) (m v : Byte) (rest : List Byte),
    s.env.turns.head? = some .host ∧ s.env.prog[s.env.pos]? = some o ∧ o = .bnz label m ∧ s.env.reads = v :: rest ∧
    v &&& m = 0x00#8 :=
  ⟨placed keyed [.host] [.bnz 0 0x01#8] [0x04#8], _, _, _, _, _, rfl, rfl, rfl, rfl, by decide⟩
theorem witness_BranchWithoutReadIsFree : ∃ (s : State) (label : Nat) (m : Byte), s.env.turns.head? = some .host ∧
    s.env.prog[s.env.pos]? = some (.bnz label m) ∧ s.env.reads = [] :=
  ⟨placed keyed [.host] [.bnz 0 0x01#8] [], _, _, rfl, rfl, rfl⟩
/-- The clause that goes on to the next position is met by a mask with no bit; the other one's value is free, so no witness
can be shown. -/
theorem witness_BranchWithoutReadIsFree_not_taken : ∃ (s : State) (label : Nat) (m : Byte),
    s.env.turns.head? = some .host ∧ s.env.prog[s.env.pos]? = some (.bnz label m) ∧ s.env.reads = [] ∧
    Config.freeBranchValue s.env.draws &&& m = 0x00#8 :=
  ⟨placed keyed [.host] [.bnz 0 0x00#8] [], _, _, rfl, rfl, rfl, BitVec.and_zero⟩
theorem witness_PseudoInstructionExpansions :
    (∃ (a : WindowAddr) (h : List Byte) (i : Nat), i < h.length ∧ Pseudo.wf (.wrblk a h) = true) ∧
    (∃ (a : WindowAddr) (n i : Nat), i < n ∧ Pseudo.wf (.rdblk a n) = true) :=
  ⟨⟨0x7F#7, [0x01#8], 0, by decide⟩, ⟨0x70#7, 16, 15, by decide⟩⟩
theorem witness_EveryStepKeepsInvariant : ∃ s t : State, s.Inv ∧ step s = .next t :=
  ⟨State.reset, _, ⟨by decide, fun h => absurd h (by decide), fun _ => rfl⟩, rfl⟩
theorem witness_BusyFallsOnlyByCompletionOrReset : ∃ s t : State, s.busy = true ∧ step s = .next t ∧ t.busy = false :=
  ⟨placed { keyed with busy := true } [.engine] [] [], _, rfl, rfl, rfl⟩
theorem witness_NothingMovesBeforeCompletion : ∃ (n : Nat) (s : State) (rest : List Turn), n = 2 ∧ s.busy = true ∧
    s.env.turns = List.replicate n .host ++ rest :=
  ⟨2, placed { keyed with busy := true } [.host, .host, .engine] [] [], [.engine], rfl, rfl, rfl⟩
theorem witness_AcceptedCommandCompletes : ∃ s : State, s.busy = true ∧ Turn.reset ∉ s.env.turns :=
  ⟨placed { keyed with busy := true } [.host, .engine] [] [], rfl, by decide⟩
theorem witness_RunEndsAlikeInEveryInterleaving : ∃ (s : State) (m : Instr), s.busy = false ∧ Turn.reset ∉ s.env.turns ∧
    s.env.prog[s.env.pos]? = some (.wr 0x44#7 (encode m)) ∧ s.env.prog[s.env.pos + 1]? = some (.rd 0x45#7) ∧
    s.env.prog[s.env.pos + 2]? = some (.bnz (s.env.pos + 1) 0x01#8) :=
  ⟨placed keyed [.host, .host, .engine, .host] (assemble [.run .enc]) [], .enc, rfl, by decide, rfl, rfl, rfl⟩

end Sys2Proof.Tests
end

section
/-! SUPPORT. What a completion step leaves, command by command; what a step of any agent keeps; what each write of a command
does to the window; and, from these, the statements of 10_state.md. -/

namespace Sys2Proof.Machine

/-! ### The state a command leaves, by the kind of its result -/

/-- R84: the commands whose result is one Block, written to DOUT[0..15]. -/
def blockCommands : List Instr := [.sblk, .sblki, .rstep, .rstepi, .lxfm, .lxfmi, .lp, .lpi, .rcon, .rkrd, .enc, .dec]

/-- The states that the completion of a command in `s` can leave (R40, R240, R241): the kind of result write is tied to the
command, and the round keys that KLOAD and KCLR write are named. -/
inductive Completes (s : State) : Instr → State → Prop where
  | failed (i : Instr) (e : ErrorKind) : Completes s i (s.raise e)
  | nop : Completes s .nop s.succeed
  | byte (i : Instr) (v : Byte) (hi : i ∈ [Instr.gfmul, .sbox, .sboxi]) : Completes s i (s.setRes v).succeed
  | block (i : Instr) (b : Block) (hi : i ∈ blockCommands) : Completes s i (s.setDout16 b).succeed
  | fstep (p : Block × Block) : Completes s .fstep (s.setDoutPair p).succeed
  | kload : Completes s .kload (s.setKeys (keySchedule s.din32) true).succeed
  | kclr : Completes s .kclr (s.setKeys zeroKeys false).succeed

/-- ENC and DEC fail one of their checks or write a Block. -/
theorem finishCipher_answers_completes (i : Instr) (hi : i ∈ blockCommands) (s : State)
    (f : Vector Block 10 → Block → Block) : ∃ t, finishCipher s f = .next t ∧ Completes s i t := by
  by_cases hk : s.keyv = true
  · by_cases hl : s.len = 16#8
    · exact ⟨_, finishCipher_ok s f hk hl, .block i _ hi⟩
    · exact ⟨_, finishCipher_badLength s f hk hl, .failed i _⟩
  · exact ⟨_, finishCipher_noKey s f (by simpa using hk), .failed i _⟩

theorem exec_answers_completes (i : Instr) (s : State) : ∃ t, exec i s = .next t ∧ Completes s i t := by
  cases i
  case nop => exact ⟨_, rfl, .nop⟩
  case gfmul | sbox | sboxi => exact ⟨_, rfl, .byte _ _ (by decide)⟩
  case sblk | sblki | rstep | rstepi | lxfm | lxfmi | lp | lpi => exact ⟨_, rfl, .block _ _ (by decide)⟩
  case rcon =>
    by_cases hr : roundIndexLegal s.index = true
    · exact ⟨_, if_pos hr, .block _ _ (by decide)⟩
    · exact ⟨_, if_neg hr, .failed _ _⟩
  case fstep =>
    by_cases hr : roundIndexLegal s.index = true
    · exact ⟨_, if_pos hr, .fstep _⟩
    · exact ⟨_, if_neg hr, .failed _ _⟩
  case kload =>
    by_cases hl : s.len = 32#8
    · exact ⟨_, execKload_ok hl, .kload⟩
    · exact ⟨_, if_neg hl, .failed _ _⟩
  case kclr => exact ⟨_, rfl, .kclr⟩
  case rkrd =>
    by_cases hk : s.keyv = false
    · exact ⟨_, if_pos hk, .failed _ _⟩
    · by_cases hj : s.index < 10
      · exact ⟨_, (if_neg hk).trans (dif_pos hj), .block _ _ (by decide)⟩
      · exact ⟨_, (if_neg hk).trans (dif_neg hj), .failed _ _⟩
  case enc | dec => exact finishCipher_answers_completes _ (by decide) s _

/-- What a command leaves is one of the forms of `Completes`. -/
theorem completes_of_exec {i : Instr} {s t : State} (h : exec i s = .next t) : Completes s i t := by
  obtain ⟨u, hu, hc⟩ := exec_answers_completes i s
  exact next_inj (hu.symm.trans h) ▸ hc

/-- What the completion step leaves: IllegalCommand, or one of the forms of the decoded command (R240, R243). -/
theorem complete_inversion {s t : State} (h : complete s = .next t) :
    t = s.raise .illegalCommand ∨ ∃ i, decode s.cmd = .command i ∧ Completes s i t := by
  rcases complete_cases s with ⟨i, hd, hc⟩ | ⟨-, hc⟩
  · exact .inr ⟨i, hd, completes_of_exec (hc.symm.trans h)⟩
  · exact .inl (next_inj (hc.symm.trans h)).symm

/-! ### What a step of any agent keeps -/

theorem hostExec_keeps_results (o : HostOp) (s : State) :
    (hostExec o s).errcode = s.errcode ∧ (hostExec o s).keyv = s.keyv ∧ (hostExec o s).rk = s.rk ∧
    (hostExec o s).dout = s.dout := by
  cases o with
  | wr a v =>
    obtain ⟨he, hk, -, hd, hr, -⟩ := hostWrite_keeps s a v
    simp [hostExec, he, hk, hd, hr]
  | rd a => simp [hostExec]
  | bnz label m => simp only [hostExec]; split <;> simp

/-- R52, R55: the host's turn leaves ERRCODE, KEYV, RK and DOUT. -/
theorem hostStep_keeps_results (s : State) :
    (hostStep s).errcode = s.errcode ∧ (hostStep s).keyv = s.keyv ∧ (hostStep s).rk = s.rk ∧
    (hostStep s).dout = s.dout := by
  unfold hostStep
  split
  · exact hostExec_keeps_results _ s
  · simp

/-- R32, R33, R34, R23: a step that is neither the reset nor a completion leaves ERRCODE, KEYV, RK and DOUT. -/
theorem step_inversion {s t : State} (h : step s = .next t) :
    (s.nextTurn = .reset ∧ t = s.popTurn.coreReset) ∨
    (s.nextTurn = .engine ∧ s.busy = true ∧ complete s.popTurn = .next t) ∨
    (t.errcode = s.errcode ∧ t.keyv = s.keyv ∧ t.rk = s.rk ∧ t.dout = s.dout) := by
  rcases step_cases s with ⟨-, hs⟩ | ⟨hn, hb, hs⟩ | ⟨-, -, hs⟩ | ⟨hn, hs⟩
  · rw [← next_inj (hs.symm.trans h)]
    exact .inr (.inr (by simpa using hostStep_keeps_results s.popTurn))
  · exact .inr (.inl ⟨hn, hb, hs.symm.trans h⟩)
  · rw [← next_inj (hs.symm.trans h)]
    exact .inr (.inr (by simp))
  · exact .inl ⟨hn, (next_inj (hs.symm.trans h)).symm⟩

/-! ### The invariant of the register file -/

/-- R242: every error kind has a legal code. -/
theorem errorCode_le_five (e : ErrorKind) : (errorCode e).toNat ≤ 5 := by cases e <;> decide

/-- A state with a legal ERRCODE and the keys of a state that meets the invariant meets it too. -/
theorem inv_of_same_keys {s t : State} (h : s.Inv) (he : t.errcode.toNat ≤ 5) (hk : t.keyv = s.keyv) (hr : t.rk = s.rk) :
    t.Inv := by
  obtain ⟨-, hkey, hzero⟩ := h
  exact ⟨he, by rwa [hk, hr], by rwa [hk, hr]⟩

theorem State.Inv.errcode_le_five {s : State} (h : s.Inv) : s.errcode.toNat ≤ 5 := h.1

theorem reset_inv : State.reset.Inv := ⟨by decide, fun h => absurd h (by decide), fun _ => rfl⟩

theorem coreReset_inv (s : State) : s.coreReset.Inv := reset_inv

theorem popTurn_inv {s : State} (h : s.Inv) : s.popTurn.Inv := h

theorem raise_inv {s : State} (h : s.Inv) (e : ErrorKind) : (s.raise e).Inv :=
  inv_of_same_keys h (errorCode_le_five e) rfl rfl

/-- Every form of a command's completion keeps the invariant: KLOAD writes a key schedule with KEYV = 1, KCLR zero keys with
KEYV = 0, and the others leave RK and KEYV. -/
theorem Completes.inv {i : Instr} {s t : State} (h : s.Inv) (hc : Completes s i t) : t.Inv := by
  cases hc with
  | failed i e => exact raise_inv h e
  | nop | byte | block | fstep => exact inv_of_same_keys h (by simp) (by simp) (by simp)
  | kload => exact ⟨by simp, fun _ => ⟨s.din32, by simp⟩, by simp⟩
  | kclr => exact ⟨by simp, by simp, by simp⟩

theorem complete_inv {s t : State} (h : s.Inv) (hc : complete s = .next t) : t.Inv := by
  rcases complete_inversion hc with rfl | ⟨i, -, hi⟩
  · exact raise_inv h _
  · exact hi.inv h

/-- Settles O54: the model's reset state has ERRCODE 0x00, KEYV 0 and zero keys. -/
theorem invariantHoldsAtReset : Obligations.InvariantHoldsAtReset := reset_inv

/-- Settles O55: the reset gives the reset keys, a completion keeps the invariant by the form of its result, and every other
step leaves ERRCODE, KEYV and RK. -/
theorem everyStepKeepsInvariant : Obligations.EveryStepKeepsInvariant := by
  intro s t h hs
  rcases step_inversion hs with ⟨-, rfl⟩ | ⟨-, -, hc⟩ | ⟨he, hk, hr, -⟩
  · exact coreReset_inv _
  · exact complete_inv (popTurn_inv h) hc
  · exact inv_of_same_keys h (he ▸ h.errcode_le_five) hk hr

/-! ### What a step changes -/

/-- Settles O40: no form of the result of a completion step writes an operand register or CMD. -/
theorem engineNeverWritesOperands : Obligations.EngineNeverWritesOperands := by
  intro s t h
  rcases complete_forms s t h with ⟨_, rfl⟩ | rfl | ⟨_, rfl⟩ | ⟨_, rfl⟩ | ⟨_, rfl⟩ | ⟨_, _, rfl⟩ <;> simp

/-- R32, R34: only a successful KLOAD or KCLR writes RK or KEYV. -/
theorem Completes.keys_changed {i : Instr} {s t : State} (hc : Completes s i t) (hne : t.rk ≠ s.rk ∨ t.keyv ≠ s.keyv) :
    (i = .kload ∨ i = .kclr) ∧ t.errcode = 0x00#8 := by
  cases hc with
  | kload => exact ⟨.inl rfl, succeed_errcode _⟩
  | kclr => exact ⟨.inr rfl, succeed_errcode _⟩
  | failed | nop | byte | block | fstep => simp at hne

/-- R23: only a successful FSTEP writes DOUT[16..31]. -/
theorem Completes.upperDout_changed {i : Instr} {s t : State} (hc : Completes s i t)
    (hne : rightHalf t.dout ≠ rightHalf s.dout) : i = .fstep ∧ t.errcode = 0x00#8 := by
  cases hc with
  | fstep => exact ⟨rfl, succeed_errcode _⟩
  | failed | nop | byte | block | kload | kclr => simp at hne

/-- Settles O41: of the completions only KLOAD's and KCLR's write keys, and no other step but the reset does. -/
theorem keysChangeOnlyByKeyCommandsOrReset : Obligations.KeysChangeOnlyByKeyCommandsOrReset := by
  intro s t hs hne
  rcases step_inversion hs with ⟨hn, -⟩ | ⟨hn, hb, hc⟩ | ⟨-, hk, hr, -⟩
  · exact .inl hn
  · rcases complete_inversion hc with rfl | ⟨i, hd, hi⟩
    · simp at hne
    · obtain ⟨rfl | rfl, he⟩ := hi.keys_changed hne
      · exact .inr ⟨hn, hb, .inl hd, he⟩
      · exact .inr ⟨hn, hb, .inr hd, he⟩
  · simp [hk, hr] at hne

/-- Settles O42: of the completions only FSTEP's writes DOUT[16..31], and no other step but the reset does. -/
theorem upperDoutChangesOnlyByFstepOrReset : Obligations.UpperDoutChangesOnlyByFstepOrReset := by
  intro s t hs hne
  rcases step_inversion hs with ⟨hn, -⟩ | ⟨hn, hb, hc⟩ | ⟨-, -, -, hd⟩
  · exact .inl hn
  · rcases complete_inversion hc with rfl | ⟨i, hd, hi⟩
    · simp at hne
    · obtain ⟨rfl, he⟩ := hi.upperDout_changed hne
      exact .inr ⟨hn, hb, hd, he⟩
  · simp [hd] at hne

theorem State.sameCore.busy_eq {s t : State} (h : s.sameCore t) : t.busy = s.busy :=
  (congrArg State.busy (show t = { s with env := t.env } from h) :)

/-- Settles O56: while BUSY = 1 a step of the host leaves KZCORE as it was, BUSY with it. -/
theorem busyFallsOnlyByCompletionOrReset : Obligations.BusyFallsOnlyByCompletionOrReset := by
  intro s t hb hs ht
  rcases step_cases s with ⟨-, hh⟩ | ⟨hn, -⟩ | ⟨hn, -⟩ | ⟨hn, -⟩
  · have hkeep : (hostStep s.popTurn).busy = s.busy := (hostStep_sameCore s.popTurn hb).busy_eq
    rw [next_inj (hh.symm.trans hs), hb, ht] at hkeep
    cases hkeep
  · exact .inl hn
  · exact .inl hn
  · exact .inr hn

/-! ### What each write of a command does to the window -/

/-- R55: an address reads alike in two states that agree on DIN, on the byte of DOUT it shows and on its scalar register. -/
theorem hostRead_congr {s t : State} {a : WindowAddr} (hdin : t.din = s.din)
    (hdout : ∀ i (hi : i < 32), a.toNat = 0x20 + i → t.dout[i] = s.dout[i]) (hsc : t.scalarRead a = s.scalarRead a) :
    t.hostRead a = s.hostRead a := by
  by_cases h : a.toNat < 0x20
  · simp only [hostRead_din _ a h, hdin]
  · by_cases h' : a.toNat < 0x40
    · simpa only [hostRead_dout _ a h h'] using hdout _ (by omega) (by omega)
    · simpa only [hostRead_scalar _ a h'] using hsc

theorem hostRead_raise (s : State) (e : ErrorKind) {a : WindowAddr} (h5 : a ≠ 0x45#7) (h6 : a ≠ 0x46#7) :
    (s.raise e).hostRead a = s.hostRead a :=
  hostRead_congr rfl (fun _ _ _ => rfl) (scalarRead_end s _ _ a h5 h6)

theorem hostRead_succeed (s : State) {a : WindowAddr} (h5 : a ≠ 0x45#7) (h6 : a ≠ 0x46#7) :
    s.succeed.hostRead a = s.hostRead a :=
  hostRead_congr rfl (fun _ _ _ => rfl) (scalarRead_end s _ _ a h5 h6)

/-- R27: a byte result is seen at RES only. -/
theorem hostRead_setRes (s : State) (v : Byte) {a : WindowAddr} (h3 : a ≠ 0x43#7) :
    (s.setRes v).hostRead a = s.hostRead a :=
  hostRead_congr rfl (fun _ _ _ => rfl) (by simp [State.scalarRead, State.status, State.err, h3])

/-- R23: a Block result is seen at DOUT[0..15] only. -/
theorem hostRead_setDout16 (s : State) (b : Block) {a : WindowAddr} (ha : ¬ (0x20 ≤ a.toNat ∧ a.toNat ≤ 0x2F)) :
    (s.setDout16 b).hostRead a = s.hostRead a :=
  hostRead_congr (setDout16_din s b) (fun i hi hai => by simp [show ¬ i < 16 by omega])
    (by simp [State.scalarRead, State.status, State.err])

/-- R181: a Pair result is seen at DOUT[0..31] only. -/
theorem hostRead_setDoutPair (s : State) (p : Block × Block) {a : WindowAddr}
    (ha : ¬ (0x20 ≤ a.toNat ∧ a.toNat ≤ 0x3F)) : (s.setDoutPair p).hostRead a = s.hostRead a :=
  hostRead_congr (setDoutPair_din s p) (fun i hi hai => by omega)
    (by simp [State.scalarRead, State.status, State.err])

/-- R34: RK is not in the window; KEYV is seen at STATUS only. -/
theorem hostRead_setKeys (s : State) (rk : Vector Block 10) (k : Bool) {a : WindowAddr} (h5 : a ≠ 0x45#7) :
    (s.setKeys rk k).hostRead a = s.hostRead a :=
  hostRead_congr (setKeys_din s rk k) (fun _ _ _ => by simp) (by simp [State.scalarRead, h5])

/-! ### Frames of the commands -/

/-- Settles O36: NOP only ends the completion step, and the byte commands write RES before it ends. -/
theorem byteCommandFrame : Obligations.ByteCommandFrame := by
  intro i s t hi h
  cases completes_of_exec h with
  | failed i e =>
    exact ⟨fun a _ h5 h6 => hostRead_raise s e h5 h6, fun _ => hostRead_raise s e (by decide) (by decide), by simp⟩
  | nop => exact ⟨fun a _ h5 h6 => hostRead_succeed s h5 h6, fun _ => hostRead_succeed s (by decide) (by decide), by simp⟩
  | byte i v hb =>
    exact ⟨fun a h3 h5 h6 => (hostRead_succeed _ h5 h6).trans (hostRead_setRes s v h3),
      fun hn => absurd (hn ▸ hb) (by decide), by simp⟩
  | block i b hb => rcases hi with rfl | rfl | rfl | rfl <;> exact absurd hb (by decide)
  | fstep | kload | kclr => simp at hi

/-- Settles O37: a failed command writes nothing of it, and a successful one its Block. -/
theorem blockCommandFrame : Obligations.BlockCommandFrame := by
  intro i s t hi h
  cases completes_of_exec h with
  | failed i e => exact ⟨fun a _ h5 h6 => hostRead_raise s e h5 h6, by simp⟩
  | block i b =>
    exact ⟨fun a ha h5 h6 => (hostRead_succeed _ h5 h6).trans (hostRead_setDout16 s b ha), by simp⟩
  | byte i v hb =>
    simp only [List.mem_cons, List.not_mem_nil, or_false] at hb
    rcases hb with rfl | rfl | rfl <;> exact absurd hi (by decide)
  | nop | fstep | kload | kclr => exact absurd hi (by decide)

/-- Settles O38: FSTEP fails, or it writes the Pair in DOUT[0..31]. -/
theorem fstepFrame : Obligations.FstepFrame := by
  intro s t h
  cases completes_of_exec h with
  | failed _ e => exact ⟨fun a _ h5 h6 => hostRead_raise s e h5 h6, by simp⟩
  | fstep p => exact ⟨fun a ha h5 h6 => (hostRead_succeed _ h5 h6).trans (hostRead_setDoutPair s p ha), by simp⟩
  | byte _ _ hb | block _ _ hb => exact absurd hb (by decide)

/-- Settles O39: what KLOAD and KCLR write beside STATUS and ERRCODE is not in the window. -/
theorem keyCommandFrame : Obligations.KeyCommandFrame := by
  intro i s t hi h
  cases completes_of_exec h with
  | failed i e => exact ⟨fun a h5 h6 => hostRead_raise s e h5 h6, by simp⟩
  | kload | kclr => exact ⟨fun a h5 h6 => (hostRead_succeed _ h5 h6).trans (hostRead_setKeys s _ _ h5), by simp⟩
  | nop | fstep => simp at hi
  | byte i _ hb | block i _ hb => rcases hi with rfl | rfl <;> exact absurd hb (by decide)

/-! ### The reset values -/

/-- R39, R55: before any write every register reads 0x00; only ID and VER do not. -/
theorem hostRead_reset {a : WindowAddr} (hid : a ≠ 0x7E#7) (hver : a ≠ 0x7F#7) : State.reset.hostRead a = 0x00#8 := by
  by_cases h : a.toNat < 0x20
  · simp [hostRead_din _ a h, State.reset]
  · by_cases h' : a.toNat < 0x40
    · simp [hostRead_dout _ a h h', State.reset]
    · rw [hostRead_scalar _ a h']
      simp [State.scalarRead, State.reset, State.status, State.err, flagByte, hid, hver]

/-- R184: without a key RKRD reports KeyNotLoaded. -/
theorem execRkrd_noKey {s : State} (h : s.keyv = false) : exec .rkrd s = .next (s.raise .keyNotLoaded) := if_pos h

/-- R212, R213, R184: without a key the commands that use RK report KeyNotLoaded. -/
theorem exec_keyUser_noKey {i : Instr} {s : State} (hi : i = .enc ∨ i = .dec ∨ i = .rkrd) (h : s.keyv = false) :
    exec i s = .next (s.raise .keyNotLoaded) := by
  rcases hi with rfl | rfl | rfl
  · exact finishCipher_noKey s _ h
  · exact finishCipher_noKey s _ h
  · exact execRkrd_noKey h

/-- Settles O1: the fields as held, then the window, then the three commands that would read RK. -/
theorem resetValues : Obligations.ResetValues := by
  refine ⟨fun i => by simp [State.reset], fun i => by simp [State.reset], rfl, rfl, rfl, rfl, rfl, rfl, rfl, rfl,
    fun j i => by simp [State.reset], fun a ha => ?_, by decide, by decide, fun i hi => exec_keyUser_noKey hi rfl⟩
  refine hostRead_reset ?_ ?_ <;> rintro rfl <;> exact absurd ha (by decide)

/-! ### STATUS -/

/-- R55: STATUS is read at 0x45. -/
theorem hostRead_status (s : State) : s.hostRead 0x45#7 = s.status := hostRead_scalar s 0x45#7 (by decide)

/-- R55: a flag is bit 0 of its byte, whose other bits are 0. -/
@[simp] theorem flagByte_getLsbD (b : Bool) (i : Nat) : (flagByte b).getLsbD i = (decide (i = 0) && b) := by
  cases b <;> simp [flagByte]

/-- R29: the bits of STATUS. -/
theorem status_getLsbD (s : State) (i : Nat) (hi : i < 8) :
    s.status.getLsbD i = ((decide (i = 0) && s.busy) || (decide (i = 1) && s.err) || (decide (i = 2) && s.keyv)) := by
  simp only [State.status, BitVec.getLsbD_or, BitVec.getLsbD_shiftLeft, flagByte_getLsbD, hi, decide_true, Bool.true_and]
  grind

/-- R29: bits 7:3 of STATUS are 0. -/
theorem status_upper_zero (s : State) : s.status.extractLsb' 3 5 = 0#5 := by
  apply BitVec.eq_of_getLsbD_eq
  intro i hi
  have h1 : ¬ 3 + i = 1 := by omega
  have h2 : ¬ 3 + i = 2 := by omega
  simp [status_getLsbD s (3 + i) (by omega), h1, h2]

/-- R31: ERR is set exactly where ERRCODE is not 0x00. -/
theorem err_iff (s : State) : s.err = true ↔ s.errcode ≠ 0x00#8 := by simp [State.err]

theorem hostWrite_status (s : State) (v : Byte) : s.hostWrite 0x45#7 v = s := by
  simp [State.hostWrite]

/-- Settles O46: STATUS bit by bit, and its address is none that a write reaches. -/
theorem statusBits : Obligations.StatusBits := by
  refine ⟨fun s => ?_, hostWrite_status, hostRead_reset (by decide) (by decide)⟩
  rw [hostRead_status]
  have bit := status_getLsbD s
  exact ⟨by rw [bit 0 (by decide)]; simp, by rw [bit 1 (by decide)]; simp [err_iff], by rw [bit 2 (by decide)]; simp,
    status_upper_zero s⟩

end Sys2Proof.Machine
end

section
/-! SUPPORT. The window as a host sees it, the host's operations one by one, runs joined end to end, and the wait for
BUSY = 0; and, from these, the statements of 20_memory.md. -/

namespace Sys2Proof.Machine

/-! ### What the window reads -/

/-- R55, R56: the addresses from 0x47 on that are neither ID nor VER read 0x00. -/
theorem hostRead_reserved (s : State) {a : WindowAddr} (hlo : 0x47 ≤ a.toNat) (hhi : a.toNat ≤ 0x7D) :
    s.hostRead a = 0x00#8 := by
  have hne (c : WindowAddr) (hc : c.toNat < 0x47 ∨ 0x7D < c.toNat) : a ≠ c := by rintro rfl; omega
  rw [hostRead_scalar s a (by omega)]
  simp [State.scalarRead, hne]

/-- R29, R55: a flag extended to a byte. -/
theorem flagByte_eq_setWidth (b : Bool) : flagByte b = (BitVec.ofBool b).setWidth 8 := by cases b <;> rfl

/-- Settles O47: DIN and DOUT byte by byte, then the scalar registers, STATUS and the constants. -/
theorem windowReadMap : Obligations.WindowReadMap := by
  intro s
  have scalar (a : WindowAddr) (ha : ¬ a.toNat < 0x40) : s.hostRead a = s.scalarRead a := hostRead_scalar s a ha
  refine ⟨fun i => ?_, fun i => ?_, scalar _ (by decide), scalar _ (by decide), scalar _ (by decide), scalar _ (by decide),
    scalar _ (by decide), ?_, scalar _ (by decide), fun a => hostRead_reserved s, scalar _ (by decide), scalar _ (by decide)⟩
  · have hi : (BitVec.ofNat 7 i.val).toNat = i.val := by rw [BitVec.toNat_ofNat]; omega
    simp only [hostRead_din s _ (hi ▸ i.isLt), hi]
  · have hi : (BitVec.ofNat 7 (0x20 + i.val)).toNat = 0x20 + i.val := by rw [BitVec.toNat_ofNat]; omega
    rw [hostRead_dout s _ (by rw [hi]; omega) (by rw [hi]; omega)]
    simp only [hi, Nat.add_sub_cancel_left]
  · rw [hostRead_status, State.status]
    simp only [flagByte_eq_setWidth, State.err]

/-! ### What a host write does -/

/-- R53, R56: the writes that have no effect. -/
theorem hostWrite_ignored {s : State} {a : WindowAddr} (v : Byte)
    (h : s.busy = true ∨ (0x20 ≤ a.toNat ∧ a.toNat ≤ 0x3F) ∨ a = 0x43#7 ∨ 0x45 ≤ a.toNat) : s.hostWrite a v = s := by
  rcases hostWrite_cases s a v with hs | ⟨hb, ha, -⟩ | ⟨hb, rfl, -⟩ | ⟨hb, rfl, -⟩ | ⟨hb, rfl, -⟩ | ⟨hb, rfl, -⟩
  · exact hs
  · have h3 : a ≠ 0x43#7 := by rintro rfl; exact absurd ha (by decide)
    simp only [hb, h3, Bool.false_eq_true, false_or] at h
    omega
  all_goals simp [hb] at h

/-- Settles O48: every address that a write reaches while BUSY = 0 is another one. -/
theorem ignoredWritesHaveNoEffect : Obligations.IgnoredWritesHaveNoEffect := fun _ _ v h => hostWrite_ignored v h

/-- R243: a code that is no command ends in IllegalCommand. -/
theorem complete_illegal {s : State} (h : decode s.cmd = .illegal) : complete s = .next (s.raise .illegalCommand) := by
  simp only [complete, h, failWith]

/-- Settles O49: the write accepts the byte, and the completion step reads it back from CMD. -/
theorem cmdWriteAcceptsAnyByte : Obligations.CmdWriteAcceptsAnyByte := by
  intro s v hb
  have hw := hostWrite_cmd s v hb
  exact ⟨hw, fun hv => by rw [hw]; exact complete_illegal hv⟩

/-- R52: register by register, what an idle host's write does unless it accepts a command. -/
theorem hostWrite_idle {s : State} {a : WindowAddr} (v : Byte) (hb : s.busy = false) (hcmd : a ≠ 0x44#7) :
    s.hostWrite a v =
      { s with
        din := s.din.setIfInBounds a.toNat v
        len := if a = 0x40#7 then v else s.len
        arg0 := if a = 0x41#7 then v else s.arg0
        arg1 := if a = 0x42#7 then v else s.arg1 } := by
  by_cases h : a.toNat < 0x20
  · have hne (c : WindowAddr) (hc : 0x20 ≤ c.toNat) : a ≠ c := by rintro rfl; omega
    simp [State.hostWrite, hb, h, hne, Vector.setIfInBounds, Vector.set, Array.setIfInBounds]
  · have hdin : s.din.setIfInBounds a.toNat v = s.din := Vector.setIfInBounds_eq_of_size_le (by omega)
    unfold State.hostWrite
    rw [if_neg (by simp [hb]), dif_neg h, hdin]
    clear hb
    split_ifs <;> simp_all

/-- R52, R54: only a write to CMD sets BUSY. -/
theorem hostWrite_busy_eq (s : State) {a : WindowAddr} (v : Byte) (hcmd : a ≠ 0x44#7) :
    (s.hostWrite a v).busy = s.busy := by
  cases hb : s.busy with
  | true => rw [hostWrite_busy s a v hb, hb]
  | false => rw [hostWrite_idle v hb hcmd]; exact hb

/-- Settles O60: while BUSY = 1 both writes are dropped; while BUSY = 0 they meet in no register, or in different bytes
of DIN. -/
theorem operandWritesCommute : Obligations.OperandWritesCommute := by
  intro s a b v w hab ha hb
  cases hbusy : s.busy with
  | true => simp only [hostWrite_busy s _ _ hbusy]
  | false =>
    have hav := (hostWrite_busy_eq s v ha).trans hbusy
    have hbw := (hostWrite_busy_eq s w hb).trans hbusy
    have hdin := Vector.setIfInBound_comm v w (xs := s.din) (BitVec.toNat_ne.mp hab)
    have hscalar (c : WindowAddr) (x : Byte) :
        (if b = c then w else if a = c then v else x) = if a = c then v else if b = c then w else x :=
      ite_ite_comm (b = c) (a = c) w v fun hbc hac => hab (hac.trans hbc.symm)
    rw [hostWrite_idle w hav hb, hostWrite_idle v hbw ha, hostWrite_idle v hbusy ha, hostWrite_idle w hbusy hb]
    simp only [hdin, hscalar]

/-- R52, R55: an idle host's write to an operand register is read back. -/
theorem hostRead_hostWrite_same {s : State} {a : WindowAddr} (v : Byte) (hb : s.busy = false)
    (ha : a.toNat ≤ 0x1F ∨ (0x40 ≤ a.toNat ∧ a.toNat ≤ 0x42)) : (s.hostWrite a v).hostRead a = v := by
  have hcmd : a ≠ 0x44#7 := by rintro rfl; exact absurd ha (by decide)
  rw [hostWrite_idle v hb hcmd]
  rcases ha with h | h
  · rw [hostRead_din _ a (by omega)]
    exact Vector.getElem_setIfInBounds_self _
  · have hreg : a = 0x40#7 ∨ a = 0x41#7 ∨ a = 0x42#7 := by bv_omega
    rw [hostRead_scalar _ a (by omega)]
    rcases hreg with rfl | rfl | rfl <;> rfl

/-- R52, R55: a write to another address than CMD is seen at its own address only. -/
theorem hostRead_hostWrite_other (s : State) {a b : WindowAddr} (v : Byte) (hcmd : a ≠ 0x44#7) (hba : b ≠ a) :
    (s.hostWrite a v).hostRead b = s.hostRead b := by
  cases hbusy : s.busy with
  | true => rw [hostWrite_busy s a v hbusy]
  | false =>
    rw [hostWrite_idle v hbusy hcmd]
    by_cases h : b.toNat < 0x20
    · rw [hostRead_din _ b h, hostRead_din _ b h]
      exact Vector.getElem_setIfInBounds_ne h (BitVec.toNat_ne.mp hba.symm)
    · by_cases h' : b.toNat < 0x40
      · rw [hostRead_dout _ b h h', hostRead_dout _ b h h']
      · have hscalar (c : WindowAddr) (x y : Byte) :
            (if b = c then (if a = c then v else x) else y) = if b = c then x else y := by
          by_cases hbc : b = c
          · have hac : a ≠ c := fun hac => hba (hbc.trans hac.symm)
            rw [if_neg hac]
          · rw [if_neg hbc, if_neg hbc]
        rw [hostRead_scalar _ b h', hostRead_scalar _ b h']
        simp only [State.scalarRead, State.status, State.err, hscalar]

/-- Settles O50: DIN, LEN, ARG0 and ARG1 hold what is written, and the write reaches no other register. -/
theorem operandWriteReadsBack : Obligations.OperandWriteReadsBack := by
  intro s a v hb ha
  have hcmd : a ≠ 0x44#7 := by rintro rfl; exact absurd ha (by decide)
  obtain ⟨-, hkeyv, -, -, hrk, henv⟩ := hostWrite_keeps s a v
  have hidle : (s.hostWrite a v).busy = false := (hostWrite_busy_eq s v hcmd).trans hb
  refine ⟨hostRead_hostWrite_same v hb ha, fun b hba => hostRead_hostWrite_other s v hcmd hba, hrk, hidle, hkeyv, henv, ?_⟩
  rw [hostWrite_idle v hidle hcmd, hostWrite_idle v hb hcmd]
  simp only [Vector.setIfInBounds_setIfInBounds]
  split_ifs <;> rfl

/-! ### Steps and runs -/

/-- Settles O9: of the four kinds of step only the completion could fail to answer a next state, and it answers one. -/
theorem everyStepAnswersNext : Obligations.EveryStepAnswersNext := by
  intro s
  rcases step_cases s with ⟨-, h⟩ | ⟨-, -, h⟩ | ⟨-, -, h⟩ | ⟨-, h⟩
  · exact ⟨_, h⟩
  · rw [h]; exact complete_next _
  · exact ⟨_, h⟩
  · exact ⟨_, h⟩

theorem step_host {s : State} (h : s.nextTurn = .host) : step s = .next (hostStep s.popTurn) := by
  simp only [step, h]

theorem step_engine_busy {s : State} (h : s.nextTurn = .engine) (hb : s.busy = true) : step s = complete s.popTurn := by
  simp [step, h, engineStep, hb]

theorem step_engine_idle {s : State} (h : s.nextTurn = .engine) (hb : s.busy = false) : step s = .next s.popTurn := by
  simp [step, h, engineStep, hb]

theorem nextTurn_cons {s : State} {t : Turn} {rest : List Turn} (h : s.env.turns = t :: rest) : s.nextTurn = t :=
  nextTurn_head (by rw [h]; rfl)

/-- R246 (assumption log 1): once no turn is left, a pending completion comes first. -/
theorem nextTurn_none_left_busy {s : State} (h : s.env.turns = []) (hb : s.busy = true) : s.nextTurn = .engine := by
  simp [State.nextTurn, h, hb]

theorem nextTurn_none_left_idle {s : State} (h : s.env.turns = []) (hb : s.busy = false) : s.nextTurn = .host := by
  simp [State.nextTurn, h, hb]

theorem RunsTo.one {s t : State} (h : step s = .next t) : RunsTo 1 s t := .cons h (.zero t)

theorem RunsTo.trans {m n : Nat} : ∀ {s t u : State}, RunsTo m s t → RunsTo n t u → RunsTo (m + n) s u := by
  induction m with
  | zero =>
    intro s t u hst htu
    rw [Nat.zero_add, show s = t from next_inj hst]
    exact htu
  | succ m ih =>
    intro s t u hst htu
    obtain ⟨r, hr⟩ := everyStepAnswersNext s
    have hrt : RunsTo m r t := by
      unfold RunsTo at hst
      rw [run_succ, hr] at hst
      exact hst
    rw [Nat.add_right_comm]
    exact .cons hr (ih hrt htu)

/-! ### While a command is pending -/

/-- R65, R276: host turns while BUSY = 1 leave KZCORE as it was, and keep of the agents outside it whatever the host's
operations then keep. -/
theorem busy_hostTurns_run {P : Env → Prop} (hpop : ∀ s : State, P s.env → P s.popTurn.env)
    (hhost : ∀ s : State, s.busy = true → P s.env → P (hostStep s).env) (rest : List Turn) (n : Nat) :
    ∀ s : State, s.busy = true → s.env.turns = List.replicate n .host ++ rest → P s.env →
      ∃ t, RunsTo n s t ∧ s.sameCore t ∧ t.env.turns = rest ∧ P t.env := by
  induction n with
  | zero => intro s _ ht hP; exact ⟨s, .zero s, .refl s, ht, hP⟩
  | succ n ih =>
    intro s hb ht hP
    have hcore : s.sameCore (hostStep s.popTurn) := (sameCore_popTurn s).trans (hostStep_sameCore s.popTurn hb)
    have hturns : (hostStep s.popTurn).env.turns = List.replicate n .host ++ rest := by
      rw [hostStep_turns, popTurn_turns, ht]; rfl
    obtain ⟨t, hrun, hcore', hrest, hPt⟩ :=
      ih _ (hcore.busy_eq.trans hb) hturns (hhost s.popTurn hb (hpop s hP))
    exact ⟨t, .cons (step_host (nextTurn_cons ht)) hrun, hcore.trans hcore', hrest, hPt⟩

/-- Settles O57: the host turns of a pending command, whatever the host does in them. -/
theorem nothingMovesBeforeCompletion : Obligations.NothingMovesBeforeCompletion := by
  intro n s rest hb ht
  obtain ⟨t, hrun, hcore, hrest, -⟩ :=
    busy_hostTurns_run (P := fun _ => True) (fun _ _ => trivial) (fun _ _ _ => trivial) rest n s hb ht trivial
  exact ⟨t, hrun, hcore, hrest⟩

/-- Without a reset, the turns laid out are host turns up to the engine's first turn, if it has one. -/
theorem turns_split : ∀ ts : List Turn, Turn.reset ∉ ts →
    ∃ n rest, ts = List.replicate n .host ++ rest ∧ (rest = [] ∨ ∃ ts', rest = .engine :: ts')
  | [], _ => ⟨0, [], rfl, .inl rfl⟩
  | .host :: ts, h => by
    obtain ⟨n, rest, hts, hrest⟩ := turns_split ts (List.not_mem_of_not_mem_cons h)
    exact ⟨n + 1, rest, by rw [hts]; rfl, hrest⟩
  | .engine :: ts, _ => ⟨0, .engine :: ts, rfl, .inr ⟨ts, rfl⟩⟩
  | .reset :: ts, h => absurd List.mem_cons_self h

/-- R246, R63: an accepted command completes at the engine's first turn, or after the host turns laid out where the engine
has none, with the effect of its completion step on the state it was accepted in. -/
theorem busy_run_completes {P : Env → Prop} (hpop : ∀ s : State, P s.env → P s.popTurn.env)
    (hhost : ∀ s : State, s.busy = true → P s.env → P (hostStep s).env) {s : State} (hb : s.busy = true)
    (hreset : Turn.reset ∉ s.env.turns) (hP : P s.env) :
    ∃ n t u, n ≤ s.env.turns.length + 1 ∧ RunsTo n s t ∧ t.busy = false ∧ Turn.reset ∉ t.env.turns ∧ P t.env ∧
      complete s = .next u ∧ u.sameCore t := by
  obtain ⟨n, rest, hts, hrest⟩ := turns_split s.env.turns hreset
  obtain ⟨w, hrun, hcore, hw, hPw⟩ := busy_hostTurns_run hpop hhost rest n s hb hts hP
  have hbw : w.busy = true := hcore.busy_eq.trans hb
  have hnext : w.nextTurn = .engine := by
    rcases hrest with rfl | ⟨ts, rfl⟩
    · exact nextTurn_none_left_busy hw hbw
    · exact nextTurn_cons hw
  obtain ⟨u, hu⟩ := complete_next s
  obtain ⟨t, ht, hut⟩ := complete_sameCore (hcore.trans (sameCore_popTurn w)) hu
  have henv : t.env = w.popTurn.env := complete_env _ _ ht
  refine ⟨n + 1, t, u, ?_, hrun.trans (.one ((step_engine_busy hnext hbw).trans ht)), complete_not_busy _ _ ht, ?_, ?_, hu,
    hut⟩
  · rw [hts, List.length_append, List.length_replicate]; omega
  · rw [henv, popTurn_turns, hw]
    exact fun hmem => hreset (hts ▸ List.mem_append_right _ (List.mem_of_mem_tail hmem))
  · rw [henv]; exact hpop w hPw

/-! ### The host's operations, one by one -/

theorem hostStep_of_op {s : State} {o : HostOp} (h : s.env.prog[s.env.pos]? = some o) : hostStep s = hostExec o s := by
  simp only [hostStep, h]

/-- R52, R88: WR writes to the window, and the host goes on. -/
theorem hostStep_wr {s : State} {a : WindowAddr} {v : Byte} (h : s.env.prog[s.env.pos]? = some (.wr a v)) :
    hostStep s = (s.hostWrite a v).hostAdvance := hostStep_of_op h

/-- R55, R88: RD takes the value from the window, and the host goes on. -/
theorem hostStep_rd {s : State} {a : WindowAddr} (h : s.env.prog[s.env.pos]? = some (.rd a)) :
    hostStep s = (s.hostReceive (s.hostRead a)).hostAdvance := hostStep_of_op h

/-- R88: BNZ goes to its label where the value read has a bit of the mask. -/
theorem hostStep_bnz_taken {s : State} {l : Nat} {m v : Byte} {rest : List Byte}
    (h : s.env.prog[s.env.pos]? = some (.bnz l m)) (hr : s.env.reads = v :: rest) (hv : v &&& m ≠ 0x00#8) :
    hostStep s = s.hostGoto l := by
  rw [hostStep_of_op h]
  simp only [hostExec, branchValue_read hr, drawBranchValue_read hr, if_pos hv]

/-- R88: BNZ goes on where the value read has no bit of the mask. -/
theorem hostStep_bnz_not_taken {s : State} {l : Nat} {m v : Byte} {rest : List Byte}
    (h : s.env.prog[s.env.pos]? = some (.bnz l m)) (hr : s.env.reads = v :: rest) (hv : v &&& m = 0x00#8) :
    hostStep s = s.hostAdvance := by
  rw [hostStep_of_op h]
  simp only [hostExec, branchValue_read hr, drawBranchValue_read hr, hv, ne_eq, not_true_eq_false, if_false]

/-! ### An idle host's next operation -/

/-- The state with other turns laid out (assumption log 1). -/
def State.withTurns (s : State) (ts : List Turn) : State := { s with env := { s.env with turns := ts } }

theorem popTurn_eq_withTurns {s : State} {ts : List Turn} (h : s.env.turns.tail = ts) : s.popTurn = s.withTurns ts := by
  rw [← h]; rfl

theorem sameCore_withTurns (s : State) (ts : List Turn) : s.sameCore (s.withTurns ts) := rfl

theorem sameCore_hostAdvance (s : State) : s.sameCore s.hostAdvance := rfl

theorem sameCore_hostGoto (s : State) (p : Nat) : s.sameCore (s.hostGoto p) := rfl

theorem sameCore_hostReceive (s : State) (v : Byte) : s.sameCore (s.hostReceive v) := rfl

/-- R62, R254: while KZCORE is idle and no reset comes, only the turns laid out change until the host performs its
operation. -/
theorem idle_run_to_hostStep {s : State} (hb : s.busy = false) (hreset : Turn.reset ∉ s.env.turns) :
    ∃ n ts, Turn.reset ∉ ts ∧ RunsTo n s (hostStep (s.withTurns ts)) := by
  induction ht : s.env.turns generalizing s with
  | nil =>
    have hpop : s.popTurn = s.withTurns [] := popTurn_eq_withTurns (by rw [ht]; rfl)
    exact ⟨1, [], List.not_mem_nil, hpop ▸ .one (step_host (nextTurn_none_left_idle ht hb))⟩
  | cons turn ts ih =>
    have hpop : s.popTurn = s.withTurns ts := popTurn_eq_withTurns (by rw [ht]; rfl)
    rw [ht] at hreset
    have hreset' := List.not_mem_of_not_mem_cons hreset
    cases turn with
    | host => exact ⟨1, ts, hreset', hpop ▸ .one (step_host (nextTurn_cons ht))⟩
    | engine =>
      obtain ⟨n, ts', hts', hrun⟩ := ih (s := s.withTurns ts) hb hreset' rfl
      exact ⟨n + 1, ts', hts', .cons (hpop ▸ step_engine_idle (nextTurn_cons ht) hb) hrun⟩
    | reset => exact absurd List.mem_cons_self hreset

/-! ### Waiting for BUSY = 0 -/

/-- R63: bit 0 of STATUS is BUSY. -/
theorem status_and_one (s : State) : s.status &&& 0x01#8 = flagByte s.busy := by
  have h : ∀ b e k : Bool, (flagByte b ||| (flagByte e <<< 1) ||| (flagByte k <<< 2)) &&& 0x01#8 = flagByte b := by decide
  exact h _ _ _

/-- R90: the host is in the loop of WAIT at position `l`: about to read STATUS, or about to branch on a value that showed
BUSY = 1. -/
structure Env.Polling (l : Nat) (e : Env) : Prop where
  read : e.prog[l]? = some (.rd 0x45#7)
  branch : e.prog[l + 1]? = some (.bnz l 0x01#8)
  position : e.pos = l ∨ (e.pos = l + 1 ∧ ∃ v rest, e.reads = v :: rest ∧ v &&& 0x01#8 ≠ 0x00#8)

theorem Env.Polling.popTurn {l : Nat} (s : State) (h : s.env.Polling l) : s.popTurn.env.Polling l :=
  ⟨h.read, h.branch, h.position⟩

/-- R63: while BUSY = 1 the host stays in the loop. -/
theorem Env.Polling.hostStep_busy {l : Nat} (s : State) (hb : s.busy = true) (h : s.env.Polling l) :
    (hostStep s).env.Polling l := by
  obtain ⟨hread, hbranch, hpos | ⟨hpos, v, rest, hr, hv⟩⟩ := h
  · rw [hostStep_rd (by rwa [hpos]), hostRead_status]
    exact ⟨hread, hbranch, .inr ⟨by simp [hpos], s.status, s.env.reads, rfl, by rw [status_and_one, hb]; decide⟩⟩
  · rw [hostStep_bnz_taken (by rwa [hpos]) hr hv]
    exact ⟨hread, hbranch, .inl rfl⟩

/-- R63, R90: a host that is about to read STATUS while BUSY = 0 reads it once and passes the branch. -/
theorem idle_run_from_poll_head {l : Nat} {s : State} (hb : s.busy = false) (hreset : Turn.reset ∉ s.env.turns)
    (hread : s.env.prog[l]? = some (.rd 0x45#7)) (hbranch : s.env.prog[l + 1]? = some (.bnz l 0x01#8))
    (hpos : s.env.pos = l) : ∃ n t, RunsTo n s t ∧ t.env.pos = l + 2 ∧ s.sameCore t := by
  subst hpos
  obtain ⟨n, ts, hts, hrun⟩ := idle_run_to_hostStep hb hreset
  rw [hostStep_rd (s := s.withTurns ts) hread, hostRead_status] at hrun
  have hcore := ((sameCore_withTurns s ts).trans (sameCore_hostReceive _ (s.withTurns ts).status)).trans
    (sameCore_hostAdvance _)
  have hmask : (s.withTurns ts).status &&& 0x01#8 = 0x00#8 := by
    rw [status_and_one, show (s.withTurns ts).busy = false from hb]; rfl
  obtain ⟨n', ts', -, hrun'⟩ := idle_run_to_hostStep (hcore.busy_eq.trans hb) hts
  rw [hostStep_bnz_not_taken hbranch rfl hmask] at hrun'
  exact ⟨n + n', _, hrun.trans hrun', rfl, (hcore.trans (sameCore_withTurns _ ts')).trans (sameCore_hostAdvance _)⟩

/-- R63, R90: while BUSY = 0 and no reset comes the host leaves the loop, whatever it read last. -/
theorem idle_run_leaves_poll {l : Nat} {s : State} (hb : s.busy = false) (hreset : Turn.reset ∉ s.env.turns)
    (h : s.env.Polling l) : ∃ n t, RunsTo n s t ∧ t.env.pos = l + 2 ∧ s.sameCore t := by
  obtain ⟨hread, hbranch, hpos | ⟨hpos, v, rest, hr, hv⟩⟩ := h
  · exact idle_run_from_poll_head hb hreset hread hbranch hpos
  · obtain ⟨n, ts, hts, hrun⟩ := idle_run_to_hostStep hb hreset
    rw [hostStep_bnz_taken (s := s.withTurns ts) (hpos ▸ hbranch) hr hv] at hrun
    obtain ⟨n', t, hrun', ht, hcore⟩ := idle_run_from_poll_head (s := (s.withTurns ts).hostGoto l) hb hts hread hbranch rfl
    exact ⟨n + n', t, hrun.trans hrun', ht, ((sameCore_withTurns s ts).trans (sameCore_hostGoto _ l)).trans hcore⟩

/-! ### RUN -/

/-- R81, R87: the decoder reads every command's code back as the command. -/
theorem decode_encode (i : Instr) : decode (encode i) = .command i := by cases i <;> rfl

/-- R54: the state in which a command byte has just been accepted. -/
def State.accept (s : State) (v : Byte) : State := { s with cmd := v, busy := true }

theorem hostWrite_cmd_eq_accept {s : State} (v : Byte) (hb : s.busy = false) : s.hostWrite 0x44#7 v = s.accept v :=
  hostWrite_cmd s v hb

/-- R54, R87: the completion step of an accepted command performs that command. -/
theorem complete_accept (m : Instr) (s : State) : complete (s.accept (encode m)) = exec m (s.accept (encode m)) :=
  decode_command m (decode_encode m) _ rfl

/-- Settles O59: the host's write of CMD accepts the command; the host stays in the poll loop while BUSY = 1; the completion
takes effect on the state at acceptance; and the loop then ends. -/
theorem runEndsAlikeInEveryInterleaving : Obligations.RunEndsAlikeInEveryInterleaving := by
  intro s m hb hreset hwr hrd hbnz
  obtain ⟨n₁, ts, hts, hrun₁⟩ := idle_run_to_hostStep hb hreset
  rw [hostStep_wr (s := s.withTurns ts) hwr, hostWrite_cmd_eq_accept (s := s.withTurns ts) _ hb] at hrun₁
  have hcore₁ : (s.accept (encode m)).sameCore ((s.withTurns ts).accept (encode m)).hostAdvance := rfl
  obtain ⟨n₂, t₂, u₂, -, hrun₂, hidle, hreset₂, hpoll, hu₂, hcore₂⟩ :=
    busy_run_completes (P := Env.Polling (s.env.pos + 1)) Env.Polling.popTurn Env.Polling.hostStep_busy
      (s := ((s.withTurns ts).accept (encode m)).hostAdvance) rfl hts ⟨hrd, hbnz, .inl rfl⟩
  obtain ⟨n₃, t₃, hrun₃, hpos, hcore₃⟩ := idle_run_leaves_poll hidle hreset₂ hpoll
  obtain ⟨u, hu⟩ := exec_next m (s.accept (encode m))
  obtain ⟨u', hu', hcore⟩ := complete_sameCore hcore₁ ((complete_accept m s).trans hu)
  obtain rfl : u' = u₂ := next_inj (hu'.symm.trans hu₂)
  exact ⟨n₁ + n₂ + n₃, t₃, u, (hrun₁.trans hrun₂).trans hrun₃, hpos, hu, (hcore.trans hcore₂).trans hcore₃⟩

end Sys2Proof.Machine
end

section
/-! SUPPORT. The command decoder, the bus word, the host's step and the pseudo-instructions: the statements of
30_encoding.md. -/

namespace Sys2Proof.Machine

/-! ### The command decoder -/

/-- R87: a byte that decodes to a command is that command's code. -/
theorem encode_of_decode {c : Byte} {i : Instr} (h : decode c = .command i) : encode i = c := by
  unfold decode at h
  split at h
  case h_20 => cases h
  all_goals
    rename_i hc
    cases h
    exact BitVec.eq_of_toNat_eq hc.symm

/-- Settles O4: the decoder reads a code back, and answers a command on no other byte. -/
theorem decodeEncodeAgree : Obligations.DecodeEncodeAgree := ⟨fun i _ => decode_encode i, fun _ _ => encode_of_decode⟩

/-- R87: a byte that is no command's code is illegal. -/
theorem decode_illegal {c : Byte} (h : ∀ i, encode i ≠ c) : decode c = .illegal := by
  cases hd : decode c with
  | command i => exact absurd (encode_of_decode hd) (h i)
  | illegal => rfl

/-- Settles O3: each listed code is its command's, and a byte outside the list is no command's code. -/
theorem decoderFollowsOpcodeMap : Obligations.DecoderFollowsOpcodeMap := by
  refine ⟨decode_encode .nop, decode_encode .gfmul, decode_encode .sbox, decode_encode .sboxi, decode_encode .sblk,
    decode_encode .sblki, decode_encode .rstep, decode_encode .rstepi, decode_encode .lxfm, decode_encode .lxfmi,
    decode_encode .lp, decode_encode .lpi, decode_encode .rcon, decode_encode .fstep, decode_encode .kload,
    decode_encode .kclr, decode_encode .rkrd, decode_encode .enc, decode_encode .dec, fun c hc => decode_illegal ?_, ?_⟩
  · rintro i rfl
    cases i <;> exact hc (by decide)
  · decide +kernel

/-! ### The bus word -/

/-- R89: the word W : A : D. -/
def busWord (w : Bool) (a : WindowAddr) (d : Byte) : BusWord :=
  ((BitVec.ofBool w).setWidth 16 <<< 15) ||| (a.setWidth 16 <<< 8) ||| d.setWidth 16

theorem encodeAccess_write (a : WindowAddr) (v : Byte) : encodeAccess (.write a v) = busWord true a v := rfl

theorem encodeAccess_read (a : WindowAddr) : encodeAccess (.read a) = busWord false a 0x00#8 := by
  simp [encodeAccess, busWord]

/-- R89: W in bit 15, A in bits 14:8, D in bits 7:0. -/
theorem busWord_getLsbD (w : Bool) (a : WindowAddr) (d : Byte) {i : Nat} (hi : i < 16) :
    (busWord w a d).getLsbD i = if i < 8 then d.getLsbD i else if i < 15 then a.getLsbD (i - 8) else w := by
  split_ifs with h8 h15
  · have h15 : i < 15 := by omega
    simp [busWord, hi, h8, h15]
  · have hd : d.getLsbD i = false := BitVec.getLsbD_of_ge d i (by omega)
    simp [busWord, hi, h8, h15, hd]
  · obtain rfl : i = 15 := by omega
    simp [busWord]

theorem busWord_w (w : Bool) (a : WindowAddr) (d : Byte) : (busWord w a d).getLsbD 15 = w :=
  busWord_getLsbD w a d (by decide)

theorem busWord_a (w : Bool) (a : WindowAddr) (d : Byte) : (busWord w a d).extractLsb' 8 7 = a := by
  refine BitVec.eq_of_getLsbD_eq fun i hi => ?_
  have h15 : 8 + i < 15 := by omega
  rw [BitVec.getLsbD_extractLsb', busWord_getLsbD w a d (by omega)]
  simp [hi, h15]

theorem busWord_d (w : Bool) (a : WindowAddr) (d : Byte) : (busWord w a d).extractLsb' 0 8 = d := by
  refine BitVec.eq_of_getLsbD_eq fun i hi => ?_
  rw [BitVec.getLsbD_extractLsb', busWord_getLsbD w a d (by omega)]
  simp [hi]

/-- R89: the three fields make up the whole word. -/
theorem busWord_fields (t : BusWord) : busWord (t.getLsbD 15) (t.extractLsb' 8 7) (t.extractLsb' 0 8) = t := by
  refine BitVec.eq_of_getLsbD_eq fun i hi => ?_
  rw [busWord_getLsbD _ _ _ hi]
  split_ifs with h8 h15
  · simp [h8]
  · have h7 : i - 8 < 7 := by omega
    simp [h7, show 8 + (i - 8) = i by omega]
  · rw [show i = 15 by omega]

/-- R89 with assumption log 7: what a word stands for, by its fields. -/
theorem decodeAccess_busWord (w : Bool) (a : WindowAddr) (d : Byte) :
    decodeAccess (busWord w a d) =
      if w then .access (.write a d) else if d = 0x00#8 then .access (.read a) else .readWithData a d := by
  simp only [decodeAccess, busWord_w, busWord_a, busWord_d]

theorem busWordWf_busWord (w : Bool) (a : WindowAddr) (d : Byte) : busWordWf (busWord w a d) = (w || d == 0x00#8) := by
  simp only [busWordWf, busWord_w, busWord_d]

/-- R89: a word that stands for an access is that access's word. -/
theorem encodeAccess_of_decodeAccess {w : Bool} {a : WindowAddr} {d : Byte} {x : Access}
    (h : decodeAccess (busWord w a d) = .access x) : encodeAccess x = busWord w a d := by
  rw [decodeAccess_busWord] at h
  split_ifs at h with hw hd
  · cases h
    rw [encodeAccess_write, hw]
  · cases h
    rw [encodeAccess_read, hd, eq_false_of_ne_true hw]

/-- Settles O5: every word is its three fields, and both directions read off them. -/
theorem busWordsRoundTrip : Obligations.BusWordsRoundTrip := by
  refine ⟨fun x => ?_, fun t x h => ?_, fun t => ?_⟩
  · cases x with
    | write a v =>
      rw [encodeAccess_write, decodeAccess_busWord, busWordWf_busWord]
      exact ⟨rfl, rfl⟩
    | read a =>
      rw [encodeAccess_read, decodeAccess_busWord, busWordWf_busWord]
      exact ⟨rfl, rfl⟩
  · rw [← busWord_fields t] at h ⊢
    exact encodeAccess_of_decodeAccess h
  · rw [← busWord_fields t, decodeAccess_busWord, busWordWf_busWord]
    cases t.getLsbD 15 with
    | false => by_cases hd : t.extractLsb' 0 8 = 0x00#8 <;> simp [hd]
    | true => simp

/-! ### The host's step -/

/-- The host's turn laid out: a step is the host's operation, on the state with the turn taken off. -/
theorem step_hostOp {s : State} {o : HostOp} (ht : s.env.turns.head? = some .host)
    (ho : s.env.prog[s.env.pos]? = some o) : step s = .next (hostExec o s.popTurn) := by
  rw [step_host (nextTurn_head ht), hostStep_of_op (s := s.popTurn) ho]

/-- R52: what a write does to KZCORE does not depend on the agents outside it. -/
theorem State.sameCore.hostWrite {s t : State} (h : s.sameCore t) (a : WindowAddr) (v : Byte) :
    (s.hostWrite a v).sameCore (t.hostWrite a v) := by
  have hbusy := h.busy_eq
  cases hb : s.busy with
  | true => rwa [hostWrite_busy s a v hb, hostWrite_busy t a v (hbusy.trans hb)]
  | false =>
    by_cases hcmd : a = 0x44#7
    · rw [hcmd, hostWrite_cmd s v hb, hostWrite_cmd t v (hbusy.trans hb), h]
      rfl
    · rw [hostWrite_idle v hb hcmd, hostWrite_idle v (hbusy.trans hb) hcmd, h]
      rfl

theorem sameCore_drawBranchValue (s : State) : s.sameCore s.drawBranchValue := by
  unfold State.drawBranchValue
  split <;> rfl

theorem popTurn_drawBranchValue (s : State) : s.popTurn.drawBranchValue = s.drawBranchValue.popTurn := by
  cases h : s.env.reads with
  | nil =>
    rw [drawBranchValue_free h, drawBranchValue_free (s := s.popTurn) h]
    rfl
  | cons v rest => rw [drawBranchValue_read h, drawBranchValue_read (s := s.popTurn) h]

/-- R52, R88: WR at the host's turn. -/
theorem step_wr {s : State} {a : WindowAddr} {v : Byte} (ht : s.env.turns.head? = some .host)
    (ho : s.env.prog[s.env.pos]? = some (.wr a v)) :
    ∃ t, step s = .next t ∧ (s.hostWrite a v).sameCore t ∧ t.env.pos = s.env.pos + 1 ∧ t.env.reads = s.env.reads := by
  obtain ⟨-, -, -, -, -, henv⟩ := hostWrite_keeps s.popTurn a v
  refine ⟨_, step_hostOp ht ho, ((sameCore_popTurn s).hostWrite a v).trans (sameCore_hostAdvance _), ?_, ?_⟩ <;>
    simp [hostExec, henv]

/-- R55, R88: RD at the host's turn. -/
theorem step_rd {s : State} {a : WindowAddr} (ht : s.env.turns.head? = some .host)
    (ho : s.env.prog[s.env.pos]? = some (.rd a)) :
    ∃ t, step s = .next t ∧ s.sameCore t ∧ t.env.pos = s.env.pos + 1 ∧ t.env.reads = s.hostRead a :: s.env.reads :=
  ⟨_, step_hostOp ht ho, rfl, rfl, rfl⟩

/-- R88: BNZ at the host's turn, whether the value it tests was read or is free (assumption log 4). -/
theorem step_bnz {s : State} {l : Nat} {m : Byte} (ht : s.env.turns.head? = some .host)
    (ho : s.env.prog[s.env.pos]? = some (.bnz l m)) :
    ∃ t, step s = .next t ∧ s.sameCore t ∧ t.env.reads = s.env.reads ∧ t.env.draws = s.drawBranchValue.env.draws ∧
      (s.branchValue &&& m ≠ 0x00#8 → t.env.pos = l) ∧ (s.branchValue &&& m = 0x00#8 → t.env.pos = s.env.pos + 1) := by
  have hstep := step_hostOp ht ho
  simp only [hostExec, popTurn_drawBranchValue, show s.popTurn.branchValue = s.branchValue from rfl] at hstep
  have hcore := (sameCore_drawBranchValue s).trans (sameCore_popTurn s.drawBranchValue)
  by_cases hm : s.branchValue &&& m = 0x00#8
  · rw [if_neg (not_not.mpr hm)] at hstep
    exact ⟨_, hstep, hcore.trans (sameCore_hostAdvance _), by simp, rfl, fun h => absurd hm h, fun _ => by simp⟩
  · rw [if_pos hm] at hstep
    exact ⟨_, hstep, hcore.trans (sameCore_hostGoto _ l), by simp, rfl, fun _ => rfl, fun h => absurd h hm⟩

/-- Settles O51: each of the host's three operations by its own step rule. -/
theorem hostStepPerformsOperation : Obligations.HostStepPerformsOperation := by
  intro s o ht ho
  refine ⟨?_, ?_, ?_⟩
  · rintro a v rfl
    exact step_wr ht ho
  · rintro a rfl
    exact step_rd ht ho
  · rintro label m v rest rfl hr
    obtain ⟨t, hstep, hcore, hreads, -, htaken, hnot⟩ := step_bnz ht ho
    rw [branchValue_read hr] at htaken hnot
    exact ⟨t, hstep, hcore, hreads, htaken, hnot⟩

/-- Settles O52: the step of a branch, where the value it tests is the free one and is drawn. -/
theorem branchWithoutReadIsFree : Obligations.BranchWithoutReadIsFree := by
  intro s label m ht ho hr
  obtain ⟨t, hstep, hcore, hreads, hdraws, htaken, hnot⟩ := step_bnz ht ho
  rw [branchValue_free hr] at htaken hnot
  rw [drawBranchValue_free hr] at hdraws
  exact ⟨t, hstep, hcore, hreads.trans hr, hdraws, htaken, hnot⟩

/-! ### Pseudo-instructions -/

/-- R50: inside the window the address of a transfer's byte `i` does not wrap. -/
theorem windowAddr_add_toNat {a : WindowAddr} {i : Nat} (h : a.toNat + i < 128) :
    (a + BitVec.ofNat 7 i).toNat = a.toNat + i := by
  rw [BitVec.toNat_add, BitVec.toNat_ofNat]
  omega

theorem expandPseudo_wrblk_get (p : Nat) (a : WindowAddr) (h : List Byte) (i : Nat) :
    (expandPseudo p (.wrblk a h))[i]? = (h[i]?).map (HostOp.wr (a + BitVec.ofNat 7 i) ·) := by
  simp [expandPseudo, Function.comp_def]

theorem expandPseudo_rdblk_get (p : Nat) (a : WindowAddr) {n i : Nat} (hi : i < n) :
    (expandPseudo p (.rdblk a n))[i]? = some (.rd (a + BitVec.ofNat 7 i)) := by
  simp [expandPseudo, hi]

/-- Settles O53: the table's rows are the definition's, and a transfer inside the window never wraps (R50). -/
theorem pseudoInstructionExpansions : Obligations.PseudoInstructionExpansions := by
  intro p
  refine ⟨fun _ => rfl, rfl, fun a h i hi hwf => ?_, fun a h => by simp [expandPseudo], fun a n i hi hwf => ?_,
    fun a n => by simp [expandPseudo], fun _ => rfl, fun _ => rfl, fun _ => rfl, fun _ => rfl⟩
  · have hlen : a.toNat + h.length ≤ 128 := of_decide_eq_true hwf
    exact ⟨_, windowAddr_add_toNat (by omega), expandPseudo_wrblk_get p a h i⟩
  · have hlen : a.toNat + n ≤ 128 := of_decide_eq_true hwf
    exact ⟨_, windowAddr_add_toNat (by omega), expandPseudo_rdblk_get p a hi⟩

end Sys2Proof.Machine
end

section
/-! SUPPORT. The field of 41_field_multiplier.md: the shift-multiply is linear in both operands and carries `xtime` out of
either, every byte is made from 0x01 by XOR and `xtime`, and every non-zero byte is a power of `x`; from these, the field
laws, the 9-bit form and GFMUL. -/

namespace Sys2Proof.Machine

/-! ### Multiplication by x -/

@[simp] theorem xtime_zero : xtime 0x00#8 = 0x00#8 := rfl

/-- A value XORed in where a bit is set: the two bits may be added first. -/
theorem ite_xor_xor (x y : Bool) (p q a : Byte) :
    (if x ^^ y then (p ^^^ q) ^^^ a else p ^^^ q) = (if x then p ^^^ a else p) ^^^ (if y then q ^^^ a else q) := by
  match x, y with
  | false, false => rfl
  | false, true => exact BitVec.xor_assoc p q a
  | true, false =>
    show p ^^^ q ^^^ a = p ^^^ a ^^^ q
    ac_rfl
  | true, true =>
    show p ^^^ q = p ^^^ a ^^^ (q ^^^ a)
    rw [show p ^^^ a ^^^ (q ^^^ a) = p ^^^ q ^^^ (a ^^^ a) by ac_rfl, BitVec.xor_self, BitVec.xor_zero]

/-- R100: `xtime` is linear, as the bits shifted out are added like the bytes. -/
theorem xtime_xor (a b : Byte) : xtime (a ^^^ b) = xtime a ^^^ xtime b := by
  simp only [xtime, BitVec.getLsbD_xor, BitVec.shiftLeft_xor_distrib, ite_xor_xor]

/-- A right shift leaves bit 7 clear, so `xtime` shifts back without feedback. -/
theorem xtime_ushiftRight_one (b : Byte) : xtime (b >>> 1) = b >>> 1 <<< 1 := by simp [xtime]

/-- A byte is its bit 0 plus `x` times the rest of it. -/
theorem bit_zero_xor_xtime (b : Byte) : (if b.getLsbD 0 then 0x01#8 else 0x00#8) ^^^ xtime (b >>> 1) = b := by
  rw [xtime_ushiftRight_one]
  ext i hi
  cases i with
  | zero => cases h : b.getLsbD 0 <;> simp_all [BitVec.getLsbD_eq_getElem]
  | succ i => cases b.getLsbD 0 <;> simp [Nat.add_comm 1 i, BitVec.getLsbD_eq_getElem hi]

theorem ushiftRight_one_toNat_lt {n : Nat} {b : Byte} (hb : b.toNat < 2 ^ (n + 1)) : (b >>> 1).toNat < 2 ^ n := by
  rw [BitVec.toNat_ushiftRight, Nat.shiftRight_eq_div_pow]
  omega

/-- Every byte is made from 0x01 by XOR and `xtime`: what both keep holds of every byte. -/
theorem byte_induction {P : Byte → Prop} (zero : P 0x00#8) (one : P 0x01#8)
    (xor : ∀ a b, P a → P b → P (a ^^^ b)) (xtime : ∀ a, P a → P (xtime a)) (b : Byte) : P b := by
  have below : ∀ (n : Nat) (b : Byte), b.toNat < 2 ^ n → P b := by
    intro n
    induction n with
    | zero =>
      intro b hb
      obtain rfl : b = 0x00#8 := BitVec.eq_of_toNat_eq (Nat.lt_one_iff.mp hb)
      exact zero
    | succ n ih =>
      intro b hb
      rw [← bit_zero_xor_xtime b]
      refine xor _ _ ?_ (xtime _ (ih _ (ushiftRight_one_toNat_lt hb)))
      split
      · exact one
      · exact zero
  exact below 8 b b.isLt

/-! ### The shift-multiply's loop -/

theorem mulLoop_xor_right (n : Nat) (p q a b c : Byte) :
    mulLoop n (p ^^^ q) a (b ^^^ c) = mulLoop n p a b ^^^ mulLoop n q a c := by
  induction n generalizing p q a b c with
  | zero => rfl
  | succ n ih => simp only [mulLoop, BitVec.getLsbD_xor, BitVec.ushiftRight_xor_distrib, ite_xor_xor, ih]

theorem mulLoop_xor_left (n : Nat) (p q a b c : Byte) :
    mulLoop n (p ^^^ q) (a ^^^ b) c = mulLoop n p a c ^^^ mulLoop n q b c := by
  induction n generalizing p q a b c with
  | zero => rfl
  | succ n ih =>
    rw [mulLoop, mulLoop, mulLoop, xtime_xor, ← ih]
    split
    · rw [show p ^^^ q ^^^ (a ^^^ b) = p ^^^ a ^^^ (q ^^^ b) by ac_rfl]
    · rfl

theorem mulLoop_xtime (n : Nat) (acc a b : Byte) : mulLoop n (xtime acc) (xtime a) b = xtime (mulLoop n acc a b) := by
  induction n generalizing acc a b with
  | zero => rfl
  | succ n ih =>
    rw [mulLoop, mulLoop, ← ih]
    split
    · rw [xtime_xor]
    · rfl

/-- With nothing left of `b` the accumulator is the result. -/
theorem mulLoop_zero_right (n : Nat) (acc a : Byte) : mulLoop n acc a 0x00#8 = acc := by
  induction n generalizing a with
  | zero => rfl
  | succ n ih => exact ih (xtime a)

/-- What the accumulator holds already is added to the result. -/
theorem mulLoop_acc (n : Nat) (acc a b : Byte) : mulLoop n acc a b = acc ^^^ mulLoop n 0x00#8 a b := by
  have h := mulLoop_xor_right n acc 0x00#8 a 0x00#8 b
  rwa [mulLoop_zero_right, BitVec.xor_zero, BitVec.zero_xor] at h

/-- With `a` = 0x01 the loop puts `b` together again, bit by bit. -/
theorem mulLoop_one_left (n : Nat) (b : Byte) (hb : b.toNat < 2 ^ n) : mulLoop n 0x00#8 0x01#8 b = b := by
  induction n generalizing b with
  | zero => exact (BitVec.eq_of_toNat_eq (Nat.lt_one_iff.mp hb)).symm
  | succ n ih =>
    have hrest : mulLoop n 0x00#8 (xtime 0x01#8) (b >>> 1) = xtime (b >>> 1) :=
      (mulLoop_xtime n 0x00#8 0x01#8 (b >>> 1)).trans (congrArg xtime (ih _ (ushiftRight_one_toNat_lt hb)))
    rw [mulLoop, mulLoop_acc, hrest, BitVec.zero_xor, bit_zero_xor_xtime]

/-! ### The laws of `mul` -/

theorem mul_xor_right (a b c : Byte) : mul a (b ^^^ c) = mul a b ^^^ mul a c :=
  mulLoop_xor_right 8 0x00#8 0x00#8 a b c

theorem mul_xor_left (a b c : Byte) : mul (a ^^^ b) c = mul a c ^^^ mul b c :=
  mulLoop_xor_left 8 0x00#8 0x00#8 a b c

theorem mul_xtime_left (a b : Byte) : mul (xtime a) b = xtime (mul a b) := mulLoop_xtime 8 0x00#8 a b

@[simp] theorem mul_zero_right (a : Byte) : mul a 0x00#8 = 0x00#8 := mulLoop_zero_right 8 0x00#8 a

@[simp] theorem mul_zero_left (b : Byte) : mul 0x00#8 b = 0x00#8 := by
  have h := mul_xor_left 0x00#8 0x00#8 b
  rwa [BitVec.xor_self, BitVec.xor_self] at h

/-- The first iteration takes `a`, and nothing of `b` is left for the others. -/
@[simp] theorem mul_one_right (a : Byte) : mul a 0x01#8 = a :=
  (mulLoop_zero_right 7 (0x00#8 ^^^ a) (xtime a)).trans BitVec.zero_xor

@[simp] theorem mul_one_left (b : Byte) : mul 0x01#8 b = b := mulLoop_one_left 8 b b.isLt

theorem mul_xtime_right (a b : Byte) : mul a (xtime b) = xtime (mul a b) := by
  induction a using byte_induction with
  | zero => simp
  | one => simp
  | xor a a' ih ih' => rw [mul_xor_left, mul_xor_left, xtime_xor, ih, ih']
  | xtime a ih => rw [mul_xtime_left, mul_xtime_left, ih]

theorem mul_commutative (a b : Byte) : mul a b = mul b a := by
  induction a using byte_induction with
  | zero => simp
  | one => simp
  | xor a a' ih ih' => rw [mul_xor_left, mul_xor_right, ih, ih']
  | xtime a ih => rw [mul_xtime_left, mul_xtime_right, ih]

theorem mul_associative (a b c : Byte) : mul (mul a b) c = mul a (mul b c) := by
  induction c using byte_induction with
  | zero => simp
  | one => simp
  | xor c c' ih ih' => rw [mul_xor_right, mul_xor_right, mul_xor_right, ih, ih']
  | xtime c ih => rw [mul_xtime_right, mul_xtime_right, mul_xtime_right, ih]

/-! ### The powers of x -/

theorem mul_xtime_iterate_left (k : Nat) (a b : Byte) : mul (xtime^[k] a) b = xtime^[k] (mul a b) :=
  Function.Semiconj.iterate_right (f := (mul · b)) (fun a => mul_xtime_left a b) k a

/-- The byte 0x01 comes back after 255 multiplications by `x`. -/
theorem one_isPeriodicPt_xtime : Function.IsPeriodicPt xtime 255 0x01#8 := by
  unfold Function.IsPeriodicPt Function.IsFixedPt
  decide +kernel

/-- `x` is primitive: the 255 powers of `x` differ, as none of 255's maximal divisors is a period. -/
theorem minimalPeriod_xtime_one : Function.minimalPeriod xtime 0x01#8 = 255 := by
  have hmax : ∀ d ∈ Nat.divisors 255, d ∣ 85 ∨ d ∣ 51 ∨ d ∣ 15 ∨ d = 255 := by decide
  have hnot : ∀ d ∈ [85, 51, 15], xtime^[d] 0x01#8 ≠ 0x01#8 := by decide +kernel
  have hper := Function.isPeriodicPt_minimalPeriod xtime 0x01#8
  obtain h | h | h | h := hmax _ (Nat.mem_divisors.mpr ⟨one_isPeriodicPt_xtime.minimalPeriod_dvd, by decide⟩)
  · exact absurd (hper.trans_dvd h) (hnot 85 (by simp))
  · exact absurd (hper.trans_dvd h) (hnot 51 (by simp))
  · exact absurd (hper.trans_dvd h) (hnot 15 (by simp))
  · exact h

theorem xtime_iterate_one_ne_zero {k : Nat} (hk : k ≤ 255) : xtime^[k] 0x01#8 ≠ 0x00#8 := by
  intro h
  have hone : xtime^[255 - k + k] 0x01#8 = 0x01#8 := by
    rw [Nat.sub_add_cancel hk]
    exact one_isPeriodicPt_xtime
  rw [Function.iterate_add_apply, h, Function.iterate_fixed xtime_zero] at hone
  exact absurd hone (by decide)

/-- The 255 powers of `x` are different non-zero bytes, and there are no more than 255 of these. -/
theorem exists_xtime_iterate_one {a : Byte} (ha : a ≠ 0x00#8) : ∃ k < 255, xtime^[k] 0x01#8 = a := by
  have hmaps : Set.MapsTo (fun k => (xtime^[k] 0x01#8).toNat) (Finset.range 255) (Finset.Ico 1 256) := by
    intro k hk
    have hne := xtime_iterate_one_ne_zero (Finset.mem_range.mp hk).le
    exact Finset.mem_Ico.mpr ⟨Nat.pos_of_ne_zero fun h0 => hne (BitVec.eq_of_toNat_eq h0), BitVec.isLt _⟩
  have hinj : Set.InjOn (fun k => (xtime^[k] 0x01#8).toNat) (Finset.range 255) := by
    intro j hj k hk h
    refine Function.iterate_injOn_Iio_minimalPeriod (f := xtime) (x := 0x01#8) ?_ ?_ (BitVec.eq_of_toNat_eq h)
    · simpa [minimalPeriod_xtime_one] using hj
    · simpa [minimalPeriod_xtime_one] using hk
  have hpos : 1 ≤ a.toNat := Nat.pos_of_ne_zero fun h0 => ha (BitVec.eq_of_toNat_eq h0)
  obtain ⟨k, hk, h⟩ :=
    Finset.surjOn_of_injOn_of_card_le _ hmaps hinj (by simp) (Finset.mem_coe.mpr (Finset.mem_Ico.mpr ⟨hpos, a.isLt⟩))
  exact ⟨k, Finset.mem_range.mp hk, BitVec.eq_of_toNat_eq h⟩

/-- R102: the inverse of `x^k` is `x^(255-k)`. -/
theorem exists_mul_eq_one {a : Byte} (ha : a ≠ 0x00#8) : ∃ b, mul a b = 0x01#8 := by
  obtain ⟨k, hk, rfl⟩ := exists_xtime_iterate_one ha
  refine ⟨xtime^[255 - k] 0x01#8, ?_⟩
  rw [mul_xtime_iterate_left, mul_one_left, ← Function.iterate_add_apply, Nat.add_sub_cancel' hk.le]
  exact one_isPeriodicPt_xtime

/-- Settles O13: each law holds of 0x01 and is kept by XOR and `xtime`, and every non-zero byte is a power of `x`. -/
theorem fieldLaws : Obligations.FieldLaws :=
  ⟨mul_commutative, mul_associative, mul_xor_right, mul_zero_right, mul_one_right, fun _ => exists_mul_eq_one⟩

/-! ### The 9-bit form -/

/-- The 9-bit register keeps the bit shifted out, in bit 8. -/
theorem setWidth_nine_shiftLeft_one (a : Byte) :
    a.setWidth 9 <<< 1 = (a <<< 1).setWidth 9 ^^^ (if a.getLsbD 7 then BitVec.twoPow 9 8 else 0x000#9) := by
  ext i hi
  have hlt : i - 1 < 8 := by omega
  obtain rfl | h8 : i = 8 ∨ i < 8 := by omega
  · cases h : a.getLsbD 7 <;> simpa using h
  · cases a.getLsbD 7 <;> simp [h8, h8.ne, BitVec.getLsbD_eq_getElem hlt]

/-- R101: 0x1C3 is bit 8, which it clears, and the 8-bit feedback. -/
theorem xtimeNine_setWidth (a : Byte) : xtimeNine (a.setWidth 9) = (xtime a).setWidth 9 := by
  have hbit : (a.setWidth 9 <<< 1).getLsbD 8 = a.getLsbD 7 := by simp
  rw [xtimeNine, xtime, hbit, setWidth_nine_shiftLeft_one]
  split
  · rw [BitVec.setWidth_xor, BitVec.xor_assoc]
    rfl
  · rw [BitVec.xor_zero]

theorem extractLsb'_setWidth_nine (a : Byte) : (a.setWidth 9).extractLsb' 0 8 = a := by
  rw [← BitVec.setWidth_eq_extractLsb' (by decide), BitVec.setWidth_setWidth_of_le _ (by decide), BitVec.setWidth_eq]

theorem mulNineLoop_setWidth (n : Nat) (acc a b : Byte) : mulNineLoop n acc (a.setWidth 9) b = mulLoop n acc a b := by
  induction n generalizing acc a b with
  | zero => rfl
  | succ n ih => rw [mulNineLoop, mulLoop, xtimeNine_setWidth, extractLsb'_setWidth_nine, ih]

/-- Settles O14: before every iteration the 9-bit register holds the 8-bit one's byte. -/
theorem nineBitReductionAgrees : Obligations.NineBitReductionAgrees := mulNineLoop_setWidth 8 0x00#8

/-! ### GFMUL -/

/-- Settles O11: the command writes the product, the corner cases are laws of `mul`, and the four products are computed. -/
theorem gfmulWritesProduct : Obligations.GfmulWritesProduct :=
  ⟨rfl, fun _ => rfl, fun a => ⟨mul_zero_right a, mul_zero_left a, mul_one_right a, mul_one_left a⟩, by decide⟩

end Sys2Proof.Machine
end

section
/-! SUPPORT. The substitution of 42_substitution.md: PI and PIINV undo each other on bytes, hence S and Sinv on Blocks; what
a command with a Block result leaves, byte by byte; from these, SBOX, SBOXI, SBLK and SBLKI. -/

namespace Sys2Proof.Machine

/-! ### The tables -/

/-- R122: looked up for each of the 256 bytes. -/
@[simp] theorem piInv_pi : ∀ x : Byte, piInv (pi x) = x := by decide +kernel

/-- R122: `PI` has a left inverse, so it is injective and, as there are finitely many bytes, reaches every byte. -/
theorem pi_surjective : Function.Surjective pi :=
  Finite.surjective_of_injective (Function.LeftInverse.injective piInv_pi)

@[simp] theorem pi_piInv (x : Byte) : pi (piInv x) = x :=
  Function.LeftInverse.rightInverse_of_surjective piInv_pi pi_surjective x

theorem pi_ne_self : ∀ x : Byte, pi x ≠ x := by decide +kernel

/-- Settles O15: the tables are looked up for every byte in one order, and counting gives the other. -/
theorem substitutionIsBijective : Obligations.SubstitutionIsBijective := ⟨piInv_pi, pi_piInv, pi_ne_self⟩

/-! ### SBOX and SBOXI -/

theorem exec_sbox (s : State) : exec .sbox s = .next (s.setRes (pi s.arg0)).succeed := rfl

theorem exec_sboxi (s : State) : exec .sboxi s = .next (s.setRes (piInv s.arg0)).succeed := rfl

/-- R125: SBOXI on SBOX's RES, whatever happened to the other registers in between. -/
theorem sboxi_of_sbox_res {s t u v : State} (hsbox : exec .sbox s = .next t) (harg : u.arg0 = t.res)
    (hsboxi : exec .sboxi u = .next v) : v.res = s.arg0 := by
  obtain rfl := next_inj ((exec_sbox s).symm.trans hsbox)
  obtain rfl := next_inj ((exec_sboxi u).symm.trans hsboxi)
  calc ((u.setRes (piInv u.arg0)).succeed).res = piInv (pi s.arg0) := congrArg piInv harg
    _ = s.arg0 := piInv_pi s.arg0

/-- Settles O12: both commands are a table look-up, the tables are compared whole, and PIINV undoes PI. -/
theorem sboxCommandsWriteTableEntry : Obligations.SboxCommandsWriteTableEntry := by
  refine ⟨rfl, rfl, exec_sbox, exec_sboxi, ?_, ?_, ?_, ?_, ?_, ?_, ?_, ?_, ?_, ?_, fun _ _ _ _ => sboxi_of_sbox_res⟩
  all_goals decide +kernel

/-! ### S and Sinv on Blocks -/

theorem subInvBlock_subBlock (b : Block) : subInvBlock (subBlock b) = b := by
  ext i h : 1
  simp

theorem subBlock_subInvBlock (b : Block) : subBlock (subInvBlock b) = b := by
  ext i h : 1
  simp

/-- Settles O20: each clause is read off the bytes of the results. -/
theorem blockSubstitutionInvertible : Obligations.BlockSubstitutionInvertible :=
  ⟨fun b i => ⟨subBlock_get b i i.isLt, subInvBlock_get b i i.isLt⟩,
    fun b => ⟨subInvBlock_subBlock b, subBlock_subInvBlock b⟩,
    fun b d i h => by simp [h]⟩

/-! ### SBLK and SBLKI -/

theorem din16_get (s : State) (i : Nat) (h : i < 16) : s.din16[i] = s.din[i] := leftHalf_get s.din i h

/-- R23, R40, R240: a Block result goes to DOUT[0..15] byte by byte; DOUT[16..31] and the other registers stay. -/
theorem finishBlock_effect (s : State) {b : Block} {f : Fin 16 → Byte} (hb : ∀ i : Fin 16, b[i.val] = f i) :
    ∃ t, finishBlock s b = .next t ∧ (∀ i : Fin 16, t.dout[i.val] = f i) ∧
      (∀ i : Fin 16, t.dout[16 + i.val] = s.dout[16 + i.val]) ∧
      t = { s with dout := t.dout, errcode := 0x00#8, busy := false } := by
  refine ⟨(s.setDout16 b).succeed, rfl, fun i => ?_, fun i => ?_, ?_⟩
  · simp [hb]
  · simp
  · simp only [State.succeed, State.setDout16]

theorem exec_sblk (s : State) : exec .sblk s = finishBlock s (subBlock s.din16) := rfl

theorem exec_sblki (s : State) : exec .sblki s = finishBlock s (subInvBlock s.din16) := rfl

/-- Settles O16: the Block written is S or Sinv of DIN[0..15], byte by byte. -/
theorem blockSubstitutionsActBytewise : Obligations.BlockSubstitutionsActBytewise := by
  refine ⟨rfl, rfl, fun s => ⟨?_, ?_⟩⟩
  · rw [exec_sblk]
    exact finishBlock_effect s fun i => by rw [subBlock_get, din16_get]
  · rw [exec_sblki]
    exact finishBlock_effect s fun i => by rw [subInvBlock_get, din16_get]

end Sys2Proof.Machine
end

section
/-! SUPPORT. The linear transform of 43_linear_transform.md: the feedback as one fold over the bytes, the elementary step
and its inverse as mutually inverse XOR-linear maps; from these, the laws of L, Linv and LP and the six commands. -/

namespace Sys2Proof.Machine

/-! ### The feedback -/

/-- R142: the byte that enters unmultiplied is where the multiply-sum starts. -/
theorem xor_lsum (x : Byte) (s : Block) :
    x ^^^ lsum s = (List.finRange 15).foldl (fun acc i => acc ^^^ mul s[i.val] lc[i.val]) x :=
  (List.foldl_hom (x ^^^ ·) fun acc i => BitVec.xor_assoc x acc (mul s[i.val] lc[i.val])).symm.trans
    (by rw [BitVec.xor_zero])

/-- R140, R142: the feedback with its constants, term by term. -/
theorem xor_lsum_eq_products (x : Byte) (s : Block) :
    x ^^^ lsum s = x ^^^ mul s[0] 0x94#8 ^^^ mul s[1] 0x20#8 ^^^ mul s[2] 0x85#8 ^^^ mul s[3] 0x10#8 ^^^
      mul s[4] 0xC2#8 ^^^ mul s[5] 0xC0#8 ^^^ mul s[6] 0x01#8 ^^^ mul s[7] 0xFB#8 ^^^ mul s[8] 0x01#8 ^^^
      mul s[9] 0xC0#8 ^^^ mul s[10] 0xC2#8 ^^^ mul s[11] 0x10#8 ^^^ mul s[12] 0x85#8 ^^^ mul s[13] 0x20#8 ^^^
      mul s[14] 0x94#8 :=
  xor_lsum x s

/-- The multiply-sum is XOR-linear, as every product is. -/
theorem lsum_xorBlock (a b : Block) : lsum (xorBlock a b) = lsum a ^^^ lsum b := by
  refine List.foldl_hom₂ (List.finRange 15) (· ^^^ ·) _ _ _ 0x00#8 0x00#8 fun p q i => ?_
  rw [xorBlock_get, mul_xor_left]
  ac_rfl

/-- Settles O23: the last constant is 0x01, so the sixteenth term is the byte itself. -/
theorem sixteenMultiplierFormAgrees : Obligations.SixteenMultiplierFormAgrees := by
  refine ⟨rfl, fun s => ?_⟩
  calc s[15] ^^^ lsum s = lsum s ^^^ mul s[15] 0x01#8 := by rw [mul_one_right, BitVec.xor_comm]
    _ = _ := by
      rw [List.finRange_succ_last, List.foldl_append, List.foldl_map]
      rfl

/-! ### The elementary step and its inverse -/

theorem stepInvBlock_stepBlock : Function.LeftInverse stepInvBlock stepBlock := by
  intro b
  ext i h : 1
  obtain hi | rfl : i < 15 ∨ i = 15 := by omega
  · rw [stepInvBlock_low _ i hi, stepBlock_succ b i (by omega)]
  · rw [stepInvBlock_last, stepBlock_zero, lsum_shiftLeft_step, BitVec.xor_assoc, BitVec.xor_self, BitVec.xor_zero]

/-- The bytes an inverse step leaves at 0..14 are the ones its multiply-sum was taken over. -/
theorem lsum_stepInvBlock (b : Block) : lsum (stepInvBlock b) = lsum (shiftLeftBlock b) :=
  lsum_congr _ _ fun i hi => by rw [stepInvBlock_low b i hi, shiftLeftBlock_low b i hi]

theorem stepBlock_stepInvBlock : Function.LeftInverse stepBlock stepInvBlock := by
  intro b
  ext i h : 1
  cases i with
  | zero => rw [stepBlock_zero, stepInvBlock_last, lsum_stepInvBlock, BitVec.xor_assoc, BitVec.xor_self, BitVec.xor_zero]
  | succ i => rw [stepBlock_succ _ i h, stepInvBlock_low b i (by omega)]

theorem stepBlock_xorBlock (a b : Block) : stepBlock (xorBlock a b) = xorBlock (stepBlock a) (stepBlock b) := by
  ext i h : 1
  cases i with
  | zero =>
    rw [xorBlock_get, stepBlock_zero, stepBlock_zero, stepBlock_zero, xorBlock_get, lsum_xorBlock]
    ac_rfl
  | succ i => simp

/-! ### L and Linv -/

theorem linearInv_linear : Function.LeftInverse linearInv linear := stepInvBlock_stepBlock.iterate 16

theorem linear_linearInv : Function.LeftInverse linear linearInv := stepBlock_stepInvBlock.iterate 16

theorem linear_xorBlock (a b : Block) : linear (xorBlock a b) = xorBlock (linear a) (linear b) :=
  Function.Semiconj₂.iterate stepBlock_xorBlock 16 a b

/-- The inverse of an XOR-linear map is XOR-linear. -/
theorem linearInv_xorBlock (a b : Block) : linearInv (xorBlock a b) = xorBlock (linearInv a) (linearInv b) := by
  apply linearInv_linear.injective
  rw [linear_xorBlock, linear_linearInv, linear_linearInv, linear_linearInv]

/-- Settles O22: an elementary step is XOR-linear, hence L is, hence its inverse. -/
theorem linearTransformIsAdditive : Obligations.LinearTransformIsAdditive :=
  fun a b => ⟨linear_xorBlock a b, linearInv_xorBlock a b⟩

theorem lpInvBlock_lpBlock (b : Block) : lpInvBlock (lpBlock b) = b := by
  rw [lpInvBlock, lpBlock, linearInv_linear, subInvBlock_subBlock]

theorem lpBlock_lpInvBlock (b : Block) : lpBlock (lpInvBlock b) = b := by
  rw [lpInvBlock, lpBlock, subBlock_subInvBlock, linear_linearInv]

/-- Settles O21: one elementary step and its inverse undo each other, hence sixteen of them do, and S and Sinv do. -/
theorem linearTransformInverses : Obligations.LinearTransformInverses := fun b =>
  ⟨linearInv_linear b, linear_linearInv b, stepInvBlock_stepBlock b, stepBlock_stepInvBlock b, lpInvBlock_lpBlock b,
    lpBlock_lpInvBlock b⟩

/-! ### RSTEP and RSTEPI -/

theorem exec_rstep (s : State) : exec .rstep s = finishBlock s (stepBlock s.din16) := rfl

theorem exec_rstepi (s : State) : exec .rstepi s = finishBlock s (stepInvBlock s.din16) := rfl

/-- Settles O17: the Block written is the elementary step's, its feedback the 15 products. -/
theorem rstepShiftsInFeedback : Obligations.RstepShiftsInFeedback := by
  refine ⟨rfl, fun s => ?_⟩
  obtain ⟨t, ht, hlow, hhigh, hframe⟩ := finishBlock_effect s (b := stepBlock s.din16) fun _ => rfl
  refine ⟨t, (exec_rstep s).trans ht, (hlow 0).trans ?_, fun i => (hlow i.succ).trans ?_, hhigh, hframe⟩
  · calc (stepBlock s.din16)[0] = s.din16[15] ^^^ lsum s.din16 := stepBlock_zero s.din16
      _ = _ := xor_lsum_eq_products s.din16[15] s.din16
      _ = _ := by simp only [din16_get]
  · exact (stepBlock_succ s.din16 i (by omega)).trans (din16_get s i _)

/-- Settles O18: the Block written is the inverse step's, its last byte the feedback over the shifted bytes. -/
theorem rstepiRecomputesDroppedByte : Obligations.RstepiRecomputesDroppedByte := by
  refine ⟨rfl, fun s => ?_⟩
  obtain ⟨t, ht, hlow, hhigh, hframe⟩ := finishBlock_effect s (b := stepInvBlock s.din16) fun _ => rfl
  refine ⟨t, (exec_rstepi s).trans ht, fun i => (hlow i.castSucc).trans ?_, (hlow 15).trans ?_, hhigh, hframe⟩
  · exact (stepInvBlock_low s.din16 i i.isLt).trans (din16_get s (i + 1) _)
  · calc (stepInvBlock s.din16)[15] = s.din16[0] ^^^ lsum (shiftLeftBlock s.din16) := stepInvBlock_last s.din16
      _ = _ := xor_lsum_eq_products s.din16[0] (shiftLeftBlock s.din16)
      _ = _ := by simp (disch := decide) only [shiftLeftBlock_low, din16_get]

/-! ### LXFM, LXFMI, LP and LPI -/

/-- R23, R40, R240: a Block result as DOUT's lower half; its upper half and the other registers stay. -/
theorem finishBlock_halves (s : State) (b : Block) :
    ∃ t, finishBlock s b = .next t ∧ leftHalf t.dout = b ∧ rightHalf t.dout = rightHalf s.dout ∧
      t = { s with dout := t.dout, errcode := 0x00#8, busy := false } := by
  refine ⟨(s.setDout16 b).succeed, rfl, leftHalf_withLowBlock s.dout b, rightHalf_withLowBlock s.dout b, ?_⟩
  simp only [State.succeed, State.setDout16]

/-- Settles O19: each command writes its transform of DIN[0..15], and L and Linv are sixteen steps by definition. -/
theorem fullTransformsWriteResult : Obligations.FullTransformsWriteResult :=
  ⟨rfl, rfl, rfl, rfl, fun s => ⟨finishBlock_halves s (linear s.din16), finishBlock_halves s (linearInv s.din16),
    finishBlock_halves s (lpBlock s.din16), finishBlock_halves s (lpInvBlock s.din16)⟩⟩

end Sys2Proof.Machine
end

section
/-! SUPPORT. The round constants of 44_round_constants.md: the last byte of L, the unit Block told by its bytes, and RCON's
two outcomes. -/

namespace Sys2Proof.Machine

/-! ### The last byte of a round constant -/

/-- R142: `n` elementary steps move a byte right by `n` places. -/
theorem stepBlock_iterate_get (b : Block) (i n : Nat) (h : i + n < 16) :
    (stepBlock^[n] b)[i + n] = b[i] := by
  induction n with
  | zero => rfl
  | succ n ih =>
    simp only [Function.iterate_succ_apply']
    exact (stepBlock_succ _ (i + n) h).trans (ih (by omega))

/-- R144: the last byte of L is the first step's feedback, which the other fifteen steps carry to the end. -/
theorem linear_last (b : Block) : (linear b)[15] = b[15] ^^^ lsum b :=
  (stepBlock_iterate_get (stepBlock b) 0 15 (by decide)).trans (stepBlock_zero b)

/-- R141: the multiply-sum skips the last byte, the only one a unit Block sets. -/
theorem lsum_unitBlock (r : Nat) : lsum (unitBlock r) = 0x00#8 :=
  calc lsum (unitBlock r) = lsum (Vector.replicate 16 0x00#8) := lsum_congr _ _ fun i hi => by simp [hi.ne]
    _ = 0x00#8 := by decide

/-- R171: the byte a unit Block sets passes through L into the last place. -/
theorem roundConst_last (r : Nat) : (roundConst r)[15] = BitVec.ofNat 8 r := by
  rw [roundConst, linear_last, lsum_unitBlock, unitBlock_get, if_pos rfl, BitVec.xor_zero]

/-- Settles O25: the feedback of the first step is the index itself, and it ends up last. -/
theorem roundConstantsEndInIndex : Obligations.RoundConstantsEndInIndex := fun r _ _ => roundConst_last r

/-! ### RCON -/

/-- R170: the bytes of a unit Block determine it. -/
theorem eq_unitBlock {u : Block} {v : Byte} (hzero : ∀ i : Fin 15, u[i.val] = 0x00#8) (hlast : u[15] = v) :
    u = unitBlock v.toNat := by
  ext i h : 1
  obtain hi | rfl : i < 15 ∨ i = 15 := by omega
  · rw [unitBlock_get, if_neg hi.ne]
    exact hzero ⟨i, hi⟩
  · rw [unitBlock_get, if_pos rfl, BitVec.ofNat_toNat, BitVec.setWidth_eq, hlast]

/-- R85, R172: the bytes that are no round index. -/
theorem roundIndexLegal_eq_false {v : Byte} (h : v = 0x00#8 ∨ 0x21 ≤ v.toNat) : roundIndexLegal v.toNat = false := by
  rw [← Bool.not_eq_true, roundIndexLegal_iff]
  rintro ⟨hlo, hhi⟩
  obtain rfl | hbig := h
  · exact absurd hlo (by decide)
  · omega

theorem exec_rcon_legal {s : State} (h : roundIndexLegal s.index = true) :
    exec .rcon s = finishBlock s (roundConst s.index) := if_pos h

theorem exec_rcon_illegal {s : State} (h : roundIndexLegal s.index = false) :
    exec .rcon s = .next (s.raise .invalidIndex) := if_neg (Bool.eq_false_iff.mp h)

/-- Settles O24: a Block with the unit Block's bytes is the unit Block, whose L is the constant written; an index outside
1..32 only raises. -/
theorem rconWritesConstantOrInvalidIndex : Obligations.RconWritesConstantOrInvalidIndex := by
  refine ⟨rfl, fun s => ⟨fun hlegal => ?_, fun hbad => exec_rcon_illegal (roundIndexLegal_eq_false hbad)⟩⟩
  obtain ⟨t, ht, hlow, hhigh, hframe⟩ := finishBlock_halves s (roundConst s.index)
  refine ⟨t, (exec_rcon_legal ((roundIndexLegal_iff s.index).mpr hlegal)).trans ht, fun u hzero hlast => ?_, hhigh, hframe⟩
  calc leftHalf t.dout = linear (unitBlock s.arg0.toNat) := hlow
    _ = linear u := by rw [← eq_unitBlock hzero hlast]

end Sys2Proof.Machine
end

section
/-! SUPPORT. The key schedule of 45_key_schedule.md: FSTEP's round, the Feistel trajectory behind the round keys, and what
KLOAD, KCLR and RKRD answer. -/

namespace Sys2Proof.Machine

/-! ### FSTEP -/

/-- R40, R181, R240: a Pair result fills DOUT, left half first; the other registers stay. -/
theorem finishPair_effect (s : State) (p : Block × Block) :
    ∃ t, finishPair s p = .next t ∧ (∀ i : Fin 16, t.dout[i.val] = p.1[i.val]) ∧
      (∀ i : Fin 16, t.dout[16 + i.val] = p.2[i.val]) ∧
      t = { s with dout := t.dout, errcode := 0x00#8, busy := false } := by
  refine ⟨(s.setDoutPair p).succeed, rfl, fun i => ?_, fun i => ?_, ?_⟩
  · simp
  · simp
  · simp only [State.succeed, State.setDoutPair]

theorem exec_fstep_legal {s : State} (h : roundIndexLegal s.index = true) :
    exec .fstep s = finishPair s (feistel s.dinPair s.index) := if_pos h

theorem exec_fstep_illegal {s : State} (h : roundIndexLegal s.index = false) :
    exec .fstep s = .next (s.raise .invalidIndex) := if_neg (Bool.eq_false_iff.mp h)

/-- R180, R181: the new left byte of one round on the Pair in DIN. -/
theorem feistel_dinPair_left_get (s : State) (r i : Nat) (h : i < 16) :
    (feistel s.dinPair r).1[i] = (lpBlock (xorBlock (leftHalf s.din) (roundConst r)))[i] ^^^ s.din[16 + i] := by
  rw [← rightHalf_get s.din i h]
  exact xorBlock_get _ _ i h

/-- R181, R186: the new right half of one round is the old left half. -/
theorem feistel_dinPair_right_get (s : State) (r i : Nat) (h : i < 16) : (feistel s.dinPair r).2[i] = s.din[i] :=
  leftHalf_get s.din i h

/-- Settles O26: the Pair written is the round's, byte by byte; an index outside 1..32 only raises. -/
theorem fstepRunsOneRoundOrInvalidIndex : Obligations.FstepRunsOneRoundOrInvalidIndex := by
  refine ⟨rfl, fun s => ⟨fun hlegal => ?_, fun hbad => exec_fstep_illegal (roundIndexLegal_eq_false hbad)⟩⟩
  obtain ⟨t, ht, hlow, hhigh, hframe⟩ := finishPair_effect s (feistel s.dinPair s.index)
  refine ⟨t, (exec_fstep_legal ((roundIndexLegal_iff s.index).mpr hlegal)).trans ht, fun i => (hlow i).trans ?_,
    fun i => (hhigh i).trans ?_, hframe⟩
  · exact feistel_dinPair_left_get s _ i i.isLt
  · exact feistel_dinPair_right_get s _ i i.isLt

/-! ### The trajectory of the key schedule -/

/-- R180: a sequence of Pairs that takes one Feistel round per place, through all 32 rounds. -/
def FollowsFeistel (p : Nat → Block × Block) : Prop := ∀ n < 32, p (n + 1) = feistel (p n) (n + 1)

/-- R180: `n` rounds from place `m` of such a sequence end at its place `m + n`. -/
theorem FollowsFeistel.feistelFrom_eq {p : Nat → Block × Block} (hp : FollowsFeistel p) (m n : Nat) (h : m + n ≤ 32) :
    feistelFrom (m + 1) n (p m) = p (m + n) := by
  induction n with
  | zero => rfl
  | succ n ih =>
    calc feistelFrom (m + 1) (n + 1) (p m) = feistel (feistelFrom (m + 1) n (p m)) (m + 1 + n) := feistelFrom_succ ..
      _ = feistel (p (m + n)) (m + n + 1) := by rw [ih (by omega), Nat.add_right_comm]
      _ = p (m + n + 1) := (hp (m + n) (by omega)).symm

/-- R180: the key schedule keeps the Pairs at places 0, 8, 16, 24 and 32. -/
theorem FollowsFeistel.keySchedule_eq {p : Nat → Block × Block} (hp : FollowsFeistel p) {k : Key}
    (h0 : p 0 = (leftHalf k, rightHalf k)) :
    keySchedule k = #v[(p 0).1, (p 0).2, (p 8).1, (p 8).2, (p 16).1, (p 16).2, (p 24).1, (p 24).2, (p 32).1, (p 32).2] := by
  have h8 : feistelFrom 1 8 (leftHalf k, rightHalf k) = p 8 := h0 ▸ hp.feistelFrom_eq 0 8 (by decide)
  have h16 : feistelFrom 9 8 (p 8) = p 16 := hp.feistelFrom_eq 8 8 (by decide)
  have h24 : feistelFrom 17 8 (p 16) = p 24 := hp.feistelFrom_eq 16 8 (by decide)
  have h32 : feistelFrom 25 8 (p 24) = p 32 := hp.feistelFrom_eq 24 8 (by decide)
  simp only [keySchedule, h0, h8, h16, h24, h32]

/-- Settles O27: two sequences with the simultaneous update are one sequence of Pairs that follows the rounds, which the key
schedule samples. -/
theorem keyScheduleSamplesFeistelRounds : Obligations.KeyScheduleSamplesFeistelRounds := by
  intro k left right hleft hright hupdate g
  have hp : FollowsFeistel fun n => (left n, right n) := by
    intro n hn
    obtain ⟨hl, hr⟩ := hupdate (n + 1) (by omega) hn
    exact Prod.ext hl hr
  have h0 : (left 0, right 0) = (leftHalf k, rightHalf k) := by
    refine Prod.ext (Vector.ext fun i h => ?_) (Vector.ext fun i h => ?_)
    · exact (hleft ⟨i, h⟩).trans (leftHalf_get k i h).symm
    · exact (hright ⟨i, h⟩).trans (rightHalf_get k i h).symm
  simp only [hp.keySchedule_eq h0]
  match g with
  | 0 | 1 | 2 | 3 | 4 => exact ⟨rfl, rfl⟩

/-! ### RKRD -/

theorem exec_rkrd_loaded {s : State} {j : Nat} (hk : s.keyv = true) (hj : s.index = j) (hlt : j < 10) :
    exec .rkrd s = finishBlock s s.rk[j] := by
  subst hj
  exact (if_neg (by simp [hk])).trans (dif_pos hlt)

theorem exec_rkrd_badIndex {s : State} (hk : s.keyv = true) (hj : 10 ≤ s.index) :
    exec .rkrd s = .next (s.raise .invalidIndex) :=
  (if_neg (by simp [hk])).trans (dif_neg hj.not_gt)

/-- Settles O30: with a key, a legal index selects the Block written and any other only raises; without one the index is not
looked at. -/
theorem rkrdReadsRoundKey : Obligations.RkrdReadsRoundKey := by
  refine ⟨rfl, fun s => ⟨fun j hk hj => ?_, execRkrd_noKey, exec_rkrd_badIndex⟩⟩
  rw [exec_rkrd_loaded hk hj j.isLt]
  exact finishBlock_halves s s.rk[j.val]

/-! ### KLOAD and KCLR -/

theorem execKload_badLength {s : State} (h : s.len ≠ 32#8) :
    exec .kload s = .next (s.raise .invalidKeyLength) := if_neg h

/-- R182, R240: KLOAD's and KCLR's writes as one record update. -/
theorem succeed_setKeys (s : State) (rk : Vector Block 10) (k : Bool) :
    (s.setKeys rk k).succeed = { s with rk := rk, keyv := k, errcode := 0x00#8, busy := false } := by
  simp only [State.succeed, State.setKeys]

/-- Settles O28: LEN alone decides, and the failing case writes neither RK nor KEYV. -/
theorem kloadDerivesKeysOrInvalidKeyLength : Obligations.KloadDerivesKeysOrInvalidKeyLength := by
  refine ⟨rfl, fun s => ⟨fun hlen => ?_, execKload_badLength⟩⟩
  rw [execKload_ok hlen, succeed_setKeys, State.din32]

theorem exec_kclr (s : State) : exec .kclr s = .next (s.setKeys zeroKeys false).succeed := rfl

theorem zeroKeys_get (j i : Nat) (hj : j < 10) (hi : i < 16) : zeroKeys[j][i] = 0x00#8 := by
  simp [zeroKeys]

/-- Settles O29: the state KCLR leaves has no key, which is what ENC, DEC and RKRD check first. -/
theorem kclrDiscardsKeys : Obligations.KclrDiscardsKeys := by
  refine ⟨rfl, fun s => ⟨(s.setKeys zeroKeys false).succeed, exec_kclr s, fun j i => ?_, succeed_setKeys s _ _,
    fun i hi => exec_keyUser_noKey hi rfl⟩⟩
  exact zeroKeys_get j i j.isLt i.isLt

end Sys2Proof.Machine
end

section
/-! SUPPORT. The block transform of 46_block_transform.md: the rounds of E and D as sequences of ten Blocks, each of which
becomes a sequence of the other by whitening; what a completed ENC or DEC leaves. -/

namespace Sys2Proof.Machine

/-! ### Folds along a sequence -/

/-- A left fold over all indices ends where a sequence that takes its steps ends. -/
theorem foldl_finRange_eq_last {α : Type} {n : Nat} (f : α → Fin n → α) (b : Fin (n + 1) → α)
    (h : ∀ i, b i.succ = f (b i.castSucc) i) : (List.finRange n).foldl f (b 0) = b (Fin.last n) := by
  induction n with
  | zero => rfl
  | succ n ih =>
    have hfirst : f (b 0) 0 = b (Fin.succ 0) := (h 0).symm
    rw [List.finRange_succ, List.foldl_cons, List.foldl_map, hfirst]
    exact ih (fun x i => f x i.succ) (fun i => b i.succ) fun i => h i.succ

/-- A right fold over all indices ends where a sequence that takes its steps backwards starts. -/
theorem foldr_finRange_eq_zero {α : Type} {n : Nat} (f : Fin n → α → α) (b : Fin (n + 1) → α)
    (h : ∀ i, b i.castSucc = f i (b i.succ)) : (List.finRange n).foldr f (b (Fin.last n)) = b 0 := by
  induction n with
  | zero => rfl
  | succ n ih =>
    have hrest := ih (fun i => f i.succ) (fun i => b i.succ) fun i => h i.succ
    rw [List.finRange_succ, List.foldr_cons, List.foldr_map]
    exact (congrArg (f 0) hrest).trans (h 0).symm

/-! ### The rounds of E and D -/

/-- R210: the Blocks of E's loop, before its rounds and after the last. -/
def EncRounds (rk : Vector Block 10) (b : Fin 10 → Block) : Prop :=
  ∀ i : Fin 9, b i.succ = lpBlock (xorBlock (b i.castSucc) rk[i.castSucc])

/-- R211: the Blocks of D's loop, which starts at place 9 and ends at place 0. -/
def DecRounds (rk : Vector Block 10) (b : Fin 10 → Block) : Prop :=
  ∀ i : Fin 9, b i.castSucc = lpInvBlock (xorBlock (b i.succ) rk[i.succ])

/-- R210, R211: each Block of a sequence XORed with the round key of its place. -/
def whitened (rk : Vector Block 10) (b : Fin 10 → Block) : Fin 10 → Block := fun i => xorBlock (b i) rk[i]

theorem EncRounds.encryptBlock_eq {rk : Vector Block 10} {b : Fin 10 → Block} (h : EncRounds rk b) :
    encryptBlock rk (b 0) = whitened rk b 9 :=
  congrArg (xorBlock · rk[9]) (foldl_finRange_eq_last (fun x i => lpBlock (xorBlock x rk[i.val])) b h)

theorem DecRounds.decryptBlock_eq {rk : Vector Block 10} {b : Fin 10 → Block} (h : DecRounds rk b) :
    decryptBlock rk (b 9) = whitened rk b 0 :=
  congrArg (xorBlock · rk[0]) (foldr_finRange_eq_zero (fun i x => lpInvBlock (xorBlock x rk[i.val + 1])) b h)

/-- R210: E's loop runs from every Block. -/
theorem exists_encRounds (rk : Vector Block 10) (x : Block) : ∃ b, b 0 = x ∧ EncRounds rk b :=
  ⟨Fin.induction x fun i y => lpBlock (xorBlock y rk[i.castSucc]), rfl, fun _ => rfl⟩

/-- R211: D's loop runs from every Block. -/
theorem exists_decRounds (rk : Vector Block 10) (x : Block) : ∃ b, b 9 = x ∧ DecRounds rk b :=
  ⟨Fin.reverseInduction x fun i y => lpInvBlock (xorBlock y rk[i.succ]), Fin.reverseInduction_last,
    fun i => Fin.reverseInduction_castSucc i⟩

/-- R214: D's loop undoes E's round by round, its Blocks being E's after the key is XORed. -/
theorem EncRounds.decRounds_whitened {rk : Vector Block 10} {b : Fin 10 → Block} (h : EncRounds rk b) :
    DecRounds rk (whitened rk b) := fun i =>
  calc xorBlock (b i.castSucc) rk[i.castSucc]
    _ = lpInvBlock (b i.succ) := by rw [h i, lpInvBlock_lpBlock]
    _ = lpInvBlock (xorBlock (xorBlock (b i.succ) rk[i.succ]) rk[i.succ]) := by rw [xorBlock_cancel]

/-- R214: E's loop undoes D's round by round, its Blocks being D's after the key is XORed. -/
theorem DecRounds.encRounds_whitened {rk : Vector Block 10} {b : Fin 10 → Block} (h : DecRounds rk b) :
    EncRounds rk (whitened rk b) := fun i =>
  calc xorBlock (b i.succ) rk[i.succ]
    _ = lpBlock (b i.castSucc) := by rw [h i, lpBlock_lpInvBlock]
    _ = lpBlock (xorBlock (xorBlock (b i.castSucc) rk[i.castSucc]) rk[i.castSucc]) := by rw [xorBlock_cancel]

theorem decryptBlock_encryptBlock (rk : Vector Block 10) (x : Block) : decryptBlock rk (encryptBlock rk x) = x := by
  obtain ⟨b, rfl, h⟩ := exists_encRounds rk x
  rw [h.encryptBlock_eq, h.decRounds_whitened.decryptBlock_eq]
  exact xorBlock_cancel (b 0) rk[0]

theorem encryptBlock_decryptBlock (rk : Vector Block 10) (x : Block) : encryptBlock rk (decryptBlock rk x) = x := by
  obtain ⟨b, rfl, h⟩ := exists_decRounds rk x
  rw [h.decryptBlock_eq, h.encRounds_whitened.encryptBlock_eq]
  exact xorBlock_cancel (b 9) rk[9]

/-- Settles O33: whitening turns E's sequence of Blocks into D's and back. -/
theorem encryptDecryptMutuallyInverse : Obligations.EncryptDecryptMutuallyInverse :=
  fun rk b => ⟨decryptBlock_encryptBlock rk b, encryptBlock_decryptBlock rk b⟩

/-! ### ENC and DEC -/

theorem exec_enc (s : State) : exec .enc s = finishCipher s encryptBlock := rfl

theorem exec_dec (s : State) : exec .dec s = finishCipher s decryptBlock := rfl

/-- R23, R40, R212, R213: what a completed cipher command leaves: its Block in DOUT[0..15], all else but ERRCODE and BUSY
as it was. -/
theorem finishCipher_halves (s : State) (f : Vector Block 10 → Block → Block) (hk : s.keyv = true) (hl : s.len = 0x10#8) :
    ∃ t, finishCipher s f = .next t ∧ leftHalf t.dout = f s.rk (leftHalf s.din) ∧
      rightHalf t.dout = rightHalf s.dout ∧ t = { s with dout := t.dout, errcode := 0x00#8, busy := false } := by
  rw [finishCipher_ok s f hk hl]
  exact finishBlock_halves s (f s.rk s.din16)

/-- Settles O31: any sequence of E's rounds from DIN[0..15] ends in the Block ENC writes; the checks go in R244's order. -/
theorem encRunsNineRoundsAndWhitening : Obligations.EncRunsNineRoundsAndWhitening := by
  refine ⟨rfl, fun s => ⟨fun hk hl => ?_, finishCipher_noKey s encryptBlock, finishCipher_badLength s encryptBlock⟩⟩
  obtain ⟨t, ht, hlow, hhigh, hframe⟩ := finishCipher_halves s encryptBlock hk hl
  refine ⟨t, (exec_enc s).trans ht, fun b hstart hrounds => ?_, hhigh, hframe⟩
  have h : EncRounds s.rk fun i => b i := hrounds
  rw [hlow, ← hstart]
  exact h.encryptBlock_eq

/-- Settles O32: any sequence of D's rounds from DIN[0..15] ends in the Block DEC writes; the checks go in R244's order. -/
theorem decRunsRoundsInReverse : Obligations.DecRunsRoundsInReverse := by
  refine ⟨rfl, fun s => ⟨fun hk hl => ?_, finishCipher_noKey s decryptBlock, finishCipher_badLength s decryptBlock⟩⟩
  obtain ⟨t, ht, hlow, hhigh, hframe⟩ := finishCipher_halves s decryptBlock hk hl
  refine ⟨t, (exec_dec s).trans ht, fun b hstart hrounds => ?_, hhigh, hframe⟩
  have h : DecRounds s.rk fun i => b i := hrounds
  rw [hlow, ← hstart]
  exact h.decryptBlock_eq

/-- R212, R213: a cipher command with a key and LEN = 16 reports success and writes its transform of DIN[0..15] under RK. -/
theorem finishCipher_result {s t : State} {f : Vector Block 10 → Block → Block} (hk : s.keyv = true)
    (hl : s.len = 0x10#8) (h : finishCipher s f = .next t) :
    leftHalf t.dout = f s.rk (leftHalf s.din) ∧ t.rk = s.rk ∧ t.keyv = true ∧ t.errcode = 0x00#8 := by
  obtain ⟨u, hu, hlow, -, hframe⟩ := finishCipher_halves s f hk hl
  obtain rfl := next_inj (hu.symm.trans h)
  exact ⟨hlow, by rw [hframe], by rw [hframe, hk], by rw [hframe]⟩

/-- Settles O34: KLOAD loads a key, which ENC keeps, so DEC undoes the E of ENC under the same round keys. -/
theorem decAfterEncRestoresBlock : Obligations.DecAfterEncRestoresBlock := by
  intro s0 s1 s2 s3 s4 s5 hlen0 hkload hrk2 hkeyv2 hlen2 henc hrk4 hkeyv4 hlen4 hdin4 hdec
  have hs1 : (s0.setKeys (keySchedule s0.din32) true).succeed = s1 := next_inj ((execKload_ok hlen0).symm.trans hkload)
  have hk2 : s2.keyv = true := by rw [hkeyv2, ← hs1, succeed_keyv, setKeys_keyv]
  obtain ⟨hcipher, hrk3, hk3, -⟩ := finishCipher_result hk2 hlen2 henc
  obtain ⟨hplain, -, -, herr⟩ := finishCipher_result (hkeyv4.trans hk3) hlen4 hdec
  refine ⟨?_, herr⟩
  calc leftHalf s5.dout = decryptBlock s2.rk (encryptBlock s2.rk (leftHalf s2.din)) := by
        rw [hplain, hdin4, hcipher, hrk4, hrk3]
    _ = leftHalf s2.din := decryptBlock_encryptBlock s2.rk (leftHalf s2.din)

/-- R215: a cipher command with a key and LEN = 16 answers by RK and DIN[0..15] alone. -/
theorem finishCipher_congr {s s' t t' : State} {f : Vector Block 10 → Block → Block} (hrk : s.rk = s'.rk)
    (hkeyv : s.keyv = s'.keyv) (hlen : s.len = s'.len) (hdin : leftHalf s.din = leftHalf s'.din) (hk : s.keyv = true)
    (hl : s.len = 0x10#8) (h : finishCipher s f = .next t) (h' : finishCipher s' f = .next t') :
    leftHalf t.dout = leftHalf t'.dout ∧ t.errcode = t'.errcode := by
  obtain ⟨hlow, -, -, herr⟩ := finishCipher_result hk hl h
  obtain ⟨hlow', -, -, herr'⟩ := finishCipher_result (hkeyv ▸ hk) (hlen ▸ hl) h'
  exact ⟨by rw [hlow, hlow', hrk, hdin], herr.trans herr'.symm⟩

/-- Settles O35: both commands are one check and one transform of RK and DIN[0..15]. -/
theorem cipherIgnoresOtherRegisters : Obligations.CipherIgnoresOtherRegisters := by
  rintro i s s' t t' (rfl | rfl) hrk hkeyv hlen hdin hk hl h h'
  · exact finishCipher_congr (f := encryptBlock) hrk hkeyv hlen hdin hk hl h h'
  · exact finishCipher_congr (f := decryptBlock) hrk hkeyv hlen hdin hk hl h h'

end Sys2Proof.Machine
end

section
/-! SUPPORT. The statement of 47_control.md: NOP. -/

namespace Sys2Proof.Machine

/-! ### NOP -/

/-- R230: the completion of NOP is only the end of the completion step. -/
theorem exec_nop (s : State) : exec .nop s = .next s.succeed := rfl

/-- Settles O10: NOP completes by success alone, the idle write accepts its code as it does every byte, and CMD resets to
that code. -/
theorem nopOnlyReportsSuccess : Obligations.NopOnlyReportsSuccess :=
  ⟨rfl, exec_nop, fun s hb => hostWrite_cmd s 0x00#8 hb, decode_encode .nop⟩

end Sys2Proof.Machine
end

section
/-! SUPPORT. The statements of 60_exceptions.md: the engine's turn, what a failed completion writes, and which error each
command's checks report. -/

namespace Sys2Proof.Machine

/-! ### The engine's turn -/

/-- R240, R246 (assumption log 1): with a command pending, the engine's turn comes where it is laid out first and where no
turn is left. -/
theorem nextTurn_engine {s : State} (hb : s.busy = true) (ht : s.env.turns.head? = some .engine ∨ s.env.turns = []) :
    s.nextTurn = .engine :=
  ht.elim nextTurn_head fun hnone => nextTurn_none_left_busy hnone hb

/-- R240: the completion step of a legal code performs that command. -/
theorem complete_command {s : State} {i : Instr} (h : decode s.cmd = .command i) : complete s = exec i s := by
  simp only [complete, h]

/-- Settles O6: the engine's turn is the completion step, which runs the decoded command. -/
theorem stepRunsDecodedCommand : Obligations.StepRunsDecodedCommand := by
  intro s i hb ht hd
  exact (step_engine_busy (nextTurn_engine hb ht) hb).trans (complete_command (s := s.popTurn) hd)

/-- Settles O7: the engine's turn is the completion step, which raises IllegalCommand. -/
theorem illegalCodeReportsIllegalCommand : Obligations.IllegalCodeReportsIllegalCommand := by
  intro s hb hd ht
  exact (step_engine_busy (nextTurn_engine hb ht) hb).trans (complete_illegal (s := s.popTurn) hd)

/-- Settles O8: the idle engine's turn only takes the turn off. -/
theorem idleEngineChangesNothing : Obligations.IdleEngineChangesNothing := fun s hb ht =>
  ⟨s.popTurn, step_engine_idle (nextTurn_head ht) hb, sameCore_popTurn s⟩

/-- Settles O58: the run to the completion of a pending command, whatever the host does meanwhile. -/
theorem acceptedCommandCompletes : Obligations.AcceptedCommandCompletes := by
  intro s hb hreset
  obtain ⟨n, t, u, hn, hrun, hidle, -, -, hu, hcore⟩ :=
    busy_run_completes (P := fun _ => True) (fun _ _ => trivial) (fun _ _ _ => trivial) hb hreset trivial
  exact ⟨n, t, u, hn, hrun, hidle, hu, hcore⟩

/-! ### What a failed completion writes -/

/-- R241: a command that leaves an error code has only raised it. -/
theorem Completes.failed_eq {i : Instr} {s t : State} (hc : Completes s i t) (hne : t.errcode ≠ 0x00#8) :
    t = { s with errcode := t.errcode, busy := false } := by
  cases hc with
  | failed i e => rfl
  | nop | byte | block | fstep | kload | kclr => exact absurd (succeed_errcode _) hne

/-- Settles O43: an illegal code only raises, and so does a command that leaves an error code. -/
theorem failedCommandWritesOnlyErrcodeAndBusy : Obligations.FailedCommandWritesOnlyErrcodeAndBusy := by
  intro s t h hne
  rcases complete_inversion h with rfl | ⟨i, -, hc⟩
  · rfl
  · exact hc.failed_eq hne

/-! ### Which error is reported -/

/-- R242: the commands that check nothing. -/
def uncheckedCommands : List Instr :=
  [.nop, .gfmul, .sbox, .sboxi, .sblk, .sblki, .rstep, .rstepi, .lxfm, .lxfmi, .lp, .lpi, .kclr]

theorem errcode_of_unchecked {i : Instr} {s t : State} (hi : i ∈ uncheckedCommands) (h : exec i s = .next t) :
    t.errcode = 0x00#8 := by
  cases i
  case rcon | fstep | kload | rkrd | enc | dec => exact absurd hi (by decide)
  all_goals exact next_inj h ▸ succeed_errcode _

/-- R212, R213: a key is checked before the length. -/
theorem errcode_of_cipher {s t : State} {f : Vector Block 10 → Block → Block} (h : finishCipher s f = .next t) :
    t.errcode = if s.keyv = false then 0x03#8 else if s.len.toNat ≠ 16 then 0x02#8 else 0x00#8 := by
  cases hk : s.keyv with
  | false =>
    rw [finishCipher_noKey s f hk] at h
    simp [← next_inj h, errorCode]
  | true =>
    by_cases hl : s.len = 16#8
    · rw [finishCipher_ok s f hk hl] at h
      simp [← next_inj h, hl]
    · have hn : s.len.toNat ≠ 16 := BitVec.toNat_ne.mp hl
      rw [finishCipher_badLength s f hk hl] at h
      simp [← next_inj h, errorCode, hn]

/-- R182: KLOAD checks the length alone. -/
theorem errcode_of_kload {s t : State} (h : exec .kload s = .next t) :
    t.errcode = if s.len.toNat ≠ 32 then 0x01#8 else 0x00#8 := by
  by_cases hl : s.len = 32#8
  · rw [execKload_ok hl] at h
    simp [← next_inj h, hl]
  · have hn : s.len.toNat ≠ 32 := BitVec.toNat_ne.mp hl
    rw [execKload_badLength hl] at h
    simp [← next_inj h, errorCode, hn]

/-- R172, R181: RCON and FSTEP check the round index alone. -/
theorem errcode_of_roundCommand {i : Instr} {s t : State} (hi : i = .rcon ∨ i = .fstep) (h : exec i s = .next t) :
    t.errcode = if ¬ (1 ≤ s.arg0.toNat ∧ s.arg0.toNat ≤ 32) then 0x04#8 else 0x00#8 := by
  simp only [← roundIndexLegal_iff]
  cases hr : roundIndexLegal s.arg0.toNat with
  | false =>
    have hraise : exec i s = .next (s.raise .invalidIndex) := by
      rcases hi with rfl | rfl
      · exact exec_rcon_illegal hr
      · exact exec_fstep_illegal hr
    exact next_inj (hraise.symm.trans h) ▸ rfl
  | true =>
    rcases hi with rfl | rfl
    · exact next_inj ((exec_rcon_legal hr).symm.trans h) ▸ rfl
    · exact next_inj ((exec_fstep_legal hr).symm.trans h) ▸ rfl

/-- R184: RKRD checks the key before the index. -/
theorem errcode_of_rkrd {s t : State} (h : exec .rkrd s = .next t) :
    t.errcode = if s.keyv = false then 0x03#8 else if ¬ s.arg0.toNat ≤ 9 then 0x04#8 else 0x00#8 := by
  cases hk : s.keyv with
  | false =>
    rw [execRkrd_noKey hk] at h
    simp [← next_inj h, errorCode]
  | true =>
    by_cases hj : s.arg0.toNat ≤ 9
    · rw [exec_rkrd_loaded hk rfl (Nat.lt_succ_of_le hj)] at h
      simp [← next_inj h, hj]
    · rw [exec_rkrd_badIndex hk (Nat.lt_of_not_le hj)] at h
      simp [← next_inj h, hj, errorCode]

/-- Settles O44: of the conditions of R244 only those of the command that CMD holds can be met, and that command checks them
in the order of R244. -/
theorem errorCodeByCauseAndPriority : Obligations.ErrorCodeByCauseAndPriority := by
  intro s t h
  rcases complete_cases s with ⟨i, hd, hc⟩ | ⟨hd, hc⟩
  · have hexec : exec i s = .next t := hc.symm.trans h
    rw [← encode_of_decode hd, decode_encode]
    cases i
    case rcon => simpa [encode, commandGroup, commandFunction] using errcode_of_roundCommand (.inl rfl) hexec
    case fstep => simpa [encode, commandGroup, commandFunction] using errcode_of_roundCommand (.inr rfl) hexec
    case kload => simpa [encode, commandGroup, commandFunction] using errcode_of_kload hexec
    case rkrd => simpa [encode, commandGroup, commandFunction] using errcode_of_rkrd hexec
    case enc | dec => simpa [encode, commandGroup, commandFunction] using errcode_of_cipher hexec
    all_goals simpa [encode, commandGroup, commandFunction] using errcode_of_unchecked (by decide) hexec
  · rw [if_pos hd, ← next_inj (hc.symm.trans h)]
    rfl

end Sys2Proof.Machine
end

section
/-! SUPPORT. The statements of 70_reset_and_hazards.md: the reset's turn, and LEN between a KLOAD and the block commands
that follow it. -/

namespace Sys2Proof.Machine

/-! ### The reset's turn -/

theorem step_reset {s : State} (h : s.nextTurn = .reset) : step s = .next s.popTurn.coreReset := by
  simp only [step, h]

theorem sameCore_coreReset (s : State) : State.reset.sameCore s.coreReset := rfl

/-- Settles O2: the reset's turn writes every register, whatever was pending. -/
theorem resetEventGivesResetValues : Obligations.ResetEventGivesResetValues := fun s ht =>
  ⟨s.popTurn.coreReset, step_reset (nextTurn_head ht), sameCore_coreReset s.popTurn⟩

/-! ### LEN after KLOAD -/

/-- R212, R213: ENC and DEC are one check, each with its own transform. -/
theorem exec_eq_finishCipher {i : Instr} (hi : i = .enc ∨ i = .dec) :
    ∃ f, ∀ s, exec i s = finishCipher s f := by
  rcases hi with rfl | rfl
  · exact ⟨encryptBlock, exec_enc⟩
  · exact ⟨decryptBlock, exec_dec⟩

/-- R52: while BUSY = 0 a write to 0x40 sets LEN. -/
theorem hostWrite_len (s : State) (v : Byte) (hb : s.busy = false) : s.hostWrite 0x40#7 v = { s with len := v } := by
  simp [State.hostWrite, hb]

/-- R277: with a key and LEN = 16, ENC and DEC report success and leave what the next of them needs. -/
theorem finishCipher_again {s t : State} {f : Vector Block 10 → Block → Block} (hk : s.keyv = true)
    (hl : s.len = 0x10#8) (h : finishCipher s f = .next t) :
    t.errcode = 0x00#8 ∧ t.keyv = true ∧ t.len = 0x10#8 := by
  rw [finishCipher_ok s f hk hl] at h
  simp [← next_inj h, hk, hl]

/-- Settles O45: KLOAD leaves LEN = 32 with a key and BUSY = 0, so ENC and DEC fail by the length alone until the host's
write to LEN, which the idle engine takes. -/
theorem lenPersistsAfterKload : Obligations.LenPersistsAfterKload := by
  intro i s t hi hlen hkload
  obtain ⟨f, hf⟩ := exec_eq_finishCipher hi
  have ht : (s.setKeys (keySchedule s.din32) true).succeed = t := next_inj ((execKload_ok hlen).symm.trans hkload)
  have hl : t.len = 0x20#8 := by simp [← ht, hlen]
  have hk : t.keyv = true := by simp [← ht]
  have hb : t.busy = false := by simp [← ht]
  have hfail : finishCipher t f = .next (t.raise .invalidBlockLength) := finishCipher_badLength t f hk (by simp [hl])
  refine ⟨hl, (hf t).trans hfail, ?_, fun u v hku hlu huv => finishCipher_again hku hlu ((hf u).symm.trans huv)⟩
  rw [hf, hostWrite_len t _ hb]
  exact ⟨_, finishCipher_ok { t with len := 0x10#8 } f hk rfl, succeed_errcode _⟩

end Sys2Proof.Machine
end
